-- ==== Sys2Proof/Word.lean ====
section
/-!
DEFINITION. The fixed widths of the block (00_scope.md R8) as bit-vector types. Bit 0 is the least significant bit and
a binary literal is written most significant bit first (R10). The one-bit registers and ports are `Bool`, `true` being 1
(log 5).
-/

namespace Sys2Proof

/-- PinSample, 4 bits (SAMPLE_W, R8, R41): bit 0 = A, bit 1 = B, bit 2 = BTN, bit 3 = SWT. -/
abbrev PinSample := BitVec 4

/-- QuadratureState, 2 bits (Q_W, R8, R42): `{B, A}`, so a literal `0bXY` means B = X and A = Y (R11). -/
abbrev QState := BitVec 2

/-- Transition index, 4 bits (R45): `{prev_q, cur_q}`. -/
abbrev LutIndex := BitVec 4

/-- Port code of a RotationDelta, 2 bits (R47). -/
abbrev DeltaCode := BitVec 2

/-- Step-selector word, 7 bits (R49): `{rst, tick, prev_valid, prev_q, pins[1:0]}`. -/
abbrev Sel7 := BitVec 7

/-- Input word of one script statement, 6 bits (R54): `{rst, tick, pins[3:0]}`. -/
abbrev In6 := BitVec 6

end Sys2Proof
end

