-- ==== Sys2Proof/Machine/State.lean ====
section
/-!
DEFINITION. The state of the machine as plain data: the block's seven registers (10_state.md R12) and, beside them, the
input words the host drives at the coming edges (R22) with the counter that free values are drawn by.
-/

namespace Sys2Proof.Machine

/-- The input ports at one rising clock edge (R22). -/
structure EdgeInput where
  /-- Synchronous reset, active high, with priority over `tick`. -/
  rst : Bool
  /-- Sampling-tick enable, sampled as a level (R94). -/
  tick : Bool
  /-- The four encoder-module lines as a PinSample (R41). -/
  pins : PinSample
  /-- The bits of `pins` that change at this very edge: each is sampled as a free draw (R119; log 4). -/
  changing : BitVec 4
deriving DecidableEq, Repr

structure State where
  /-- `prev_q`: the quadrature state of the latest tick's sample (R14). -/
  prevQ : QState
  /-- `prev_valid`: 1 once `prev_q` holds a sampled state (R15). -/
  prevValid : Bool
  /-- `delta_r`: the delta code of the latest tick, 0b00 when no tick (R17). -/
  deltaR : DeltaCode
  /-- `amb_r`: the degraded-input flag of the latest tick, 0 when no tick (R18). -/
  ambR : Bool
  /-- `btn_r`: the button bit of the latest tick's sample (R19). -/
  btnR : Bool
  /-- `swt_r`: the switch bit of the latest tick's sample (R20). -/
  swtR : Bool
  /-- `upd_r`: 1 in the clock cycle after a tick (R21). -/
  updR : Bool
  /-- The host's inputs at the coming edges, the next edge first; not state of the block (log 1). -/
  inputs : List EdgeInput
  /-- The number free values are drawn by; not state of the block, which counts nothing (R13; log 3). -/
  edgeNo : Nat
deriving DecidableEq, Repr

/-- Why the machine stops with a fault. The block has no exception, fault or halt (60_exceptions.md R98), so no
constructor exists and no one raises one: the absence is the spec's, and safe. -/
inductive Fault where
deriving DecidableEq, Repr

/-- Why an instruction has no meaning. -/
inductive Refusal where
  /-- Raised only by an arm of exec for a step kind that has no meaning yet; no arm raises it. Safe. -/
  | notModelled (mnemonic : String)
deriving DecidableEq, Repr

/-- The machine right after a reset edge: every register at the value R14 to R21 and R111 give. The host has listed no
inputs (log 1), and the free values are drawn from number 0 on (log 3). -/
def State.reset : State where
  prevQ := 0b00#2
  prevValid := false
  deltaR := 0b00#2
  ambR := false
  btnR := false
  swtR := false
  updR := false
  inputs := []
  edgeNo := 0

end Sys2Proof.Machine
end

