-- ==== Sys2Proof/Machine/Script.lean ====
section
/-!
DEFINITION. The tick script (30_encoding.md R53, R54): its statements, their expansion, the 6-bit input word of each, its
concrete text, and how a script becomes the host's inputs. The script is the spec's notation for what the host drives; the
block has no assembler (log 12).
-/

namespace Sys2Proof.Machine

/-- A statement that is one edge (R53). -/
inductive CoreStatement where
  | reset
  | idle
  | tick (p : PinSample)
deriving DecidableEq, Repr

/-- A statement of a script, the two pseudo-instructions among them (R53). -/
inductive Statement where
  | core (c : CoreStatement)
  /-- `IDLE n`, n at least 1. -/
  | idleTimes (n : Nat)
  /-- `REP n TICK p`, n at least 1. -/
  | repTick (n : Nat) (p : PinSample)
deriving DecidableEq, Repr

/-- The expansion of a statement (R53). -/
def Statement.expand : Statement → List CoreStatement
  | .core c => [c]
  | .idleTimes n => List.replicate n .idle
  | .repTick n p => List.replicate n (.tick p)

/-- `IN6 = {rst, tick, pins[3:0]}` of a statement (R54). -/
def CoreStatement.in6 : CoreStatement → In6
  | .reset => 0b100000#6
  | .idle => 0b000000#6
  | .tick p => 0b01#2 ++ p

/-- The input ports an input word drives, all of `pins` stable (R54). -/
def EdgeInput.ofIn6 (w : In6) : EdgeInput where
  rst := w.getLsbD 5
  tick := w.getLsbD 4
  pins := w.extractLsb' 0 4
  changing := 0b0000#4

/-- The host's inputs for a script, one edge a statement, in order (R53). -/
def scriptInputs (prog : List Statement) : List EdgeInput :=
  (prog.flatMap Statement.expand).map fun c => EdgeInput.ofIn6 c.in6

/-- The host is about to drive a script (log 1). -/
def State.load (s : State) (prog : List Statement) : State := { s with inputs := scriptInputs prog }

/-! The concrete text of a script (R53). -/

/-- The text of a line before its comment. -/
def stripComment : List Char → List Char
  | [] => []
  | c :: cs => if c = ';' then [] else c :: stripComment cs

/-- The pieces of a text between characters that separate. -/
def splitAtAll (seps : List Char) : List Char → List (List Char)
  | [] => [[]]
  | c :: cs =>
    match splitAtAll seps cs with
    | [] => [[c]]
    | w :: ws => if seps.contains c then [] :: w :: ws else (c :: w) :: ws

/-- The words of a line. -/
def lineWords (line : List Char) : List (List Char) :=
  (splitAtAll [' ', '\t', '\r'] (stripComment line)).filter fun w => !w.isEmpty

/-- One binary digit. -/
def binaryDigit (c : Char) : Option Bool :=
  if c = '0' then some false else if c = '1' then some true else none

/-- One decimal digit. -/
def decimalDigit (c : Char) : Option Nat :=
  if '0' ≤ c ∧ c ≤ '9' then some (c.toNat - '0'.toNat) else none

/-- One hexadecimal digit, in either letter case (log 12). -/
def hexDigit (c : Char) : Option Nat :=
  if 'a' ≤ c ∧ c ≤ 'f' then some (c.toNat - 'a'.toNat + 10)
  else if 'A' ≤ c ∧ c ≤ 'F' then some (c.toNat - 'A'.toNat + 10)
  else decimalDigit c

/-- `pinword`: `0b` and four binary digits, SWT first, or `0x` and one hexadecimal digit (R53). -/
def readPinword : List Char → Option PinSample
  | ['0', 'b', d3, d2, d1, d0] =>
    match binaryDigit d3, binaryDigit d2, binaryDigit d1, binaryDigit d0 with
    | some b3, some b2, some b1, some b0 =>
      some (BitVec.ofBool b3 ++ BitVec.ofBool b2 ++ BitVec.ofBool b1 ++ BitVec.ofBool b0)
    | _, _, _, _ => none
  | ['0', 'x', h] => (hexDigit h).map fun d => BitVec.ofNat 4 d
  | _ => none

/-- A decimal number read on from `acc` (log 12). -/
def readDecimal (acc : Nat) : List Char → Option Nat
  | [] => some acc
  | c :: cs =>
    match decimalDigit c with
    | some d => readDecimal (10 * acc + d) cs
    | none => none

/-- The count of a pseudo-instruction, at least 1 (R53). -/
def readCount (w : List Char) : Option Nat :=
  match w with
  | [] => none
  | _ :: _ =>
    match readDecimal 0 w with
    | some n => if 1 ≤ n then some n else none
    | none => none

/-- The statement a line's words write (R53). -/
def readWords (ws : List (List Char)) : Option Statement :=
  match ws with
  | [w] =>
    if w = "RESET".toList then some (.core .reset)
    else if w = "IDLE".toList then some (.core .idle)
    else none
  | [w, x] =>
    if w = "TICK".toList then (readPinword x).map fun p => .core (.tick p)
    else if w = "IDLE".toList then (readCount x).map fun n => .idleTimes n
    else none
  | [w, x, y, z] =>
    if w = "REP".toList ∧ y = "TICK".toList then
      match readCount x, readPinword z with
      | some n, some p => some (.repTick n p)
      | _, _ => none
    else none
  | _ => none

/-- The lines of a script; a line without a statement is skipped (log 12). -/
def readLines : List (List Char) → Option (List Statement)
  | [] => some []
  | l :: ls =>
    match lineWords l, readLines ls with
    | [], rest => rest
    | w :: ws, some rest => (readWords (w :: ws)).map fun st => st :: rest
    | _ :: _, none => none

/-- A script from its text; `none` where the text is not in R53's grammar. -/
def readScript (text : List Char) : Option (List Statement) := readLines (splitAtAll ['\n'] text)

end Sys2Proof.Machine
end

