-- ==== Sys2Proof/Syntax.lean ====
section
/-!
DEFINITION. The step kinds, one constructor per row of spec/opcode_table.json (30_encoding.md R49). The block has no
instructions in the processor sense; the host's word "instruction" means a step kind here. A field `x` holds the bits
that the row's pattern leaves open (log 7); none of them reaches the meaning.
-/

namespace Sys2Proof

inductive Instr where
  /-- RESET, `1xxxxxx` (R89). -/
  | reset (x : BitVec 6)
  /-- IDLE, `00xxxxx` (R90). -/
  | idle (x : BitVec 5)
  /-- PRIME, `010xxxx` (R87). -/
  | prime (x : BitVec 4)
  /-- TR.00.00, `0110000`: entry 0, class HOLD (R62). -/
  | tr0000
  /-- TR.00.01, `0110001`: entry 1, class CW (R63). -/
  | tr0001
  /-- TR.00.10, `0110010`: entry 2, class CCW (R64). -/
  | tr0010
  /-- TR.00.11, `0110011`: entry 3, class DIAG (R65). -/
  | tr0011
  /-- TR.01.00, `0110100`: entry 4, class CCW (R66). -/
  | tr0100
  /-- TR.01.01, `0110101`: entry 5, class HOLD (R67). -/
  | tr0101
  /-- TR.01.10, `0110110`: entry 6, class DIAG (R68). -/
  | tr0110
  /-- TR.01.11, `0110111`: entry 7, class CW (R69). -/
  | tr0111
  /-- TR.10.00, `0111000`: entry 8, class CW (R70). -/
  | tr1000
  /-- TR.10.01, `0111001`: entry 9, class DIAG (R71). -/
  | tr1001
  /-- TR.10.10, `0111010`: entry 10, class HOLD (R72). -/
  | tr1010
  /-- TR.10.11, `0111011`: entry 11, class CCW (R73). -/
  | tr1011
  /-- TR.11.00, `0111100`: entry 12, class DIAG (R74). -/
  | tr1100
  /-- TR.11.01, `0111101`: entry 13, class CCW (R75). -/
  | tr1101
  /-- TR.11.10, `0111110`: entry 14, class CW (R76). -/
  | tr1110
  /-- TR.11.11, `0111111`: entry 15, class HOLD (R77). -/
  | tr1111
deriving DecidableEq, Repr

end Sys2Proof
end

