-- ==== Sys2Proof/WellFormed.lean ====
section
/-!
DEFINITION. What is well formed. A step kind always is: no selector word is illegal or reserved (30_encoding.md R51), and the
open bits of a row are any bits (R49). A pseudo-instruction of a tick script has a count of at least one (R53).
-/

namespace Sys2Proof

/-- Every step kind is well formed (R51). -/
def Instr.wellFormed : Instr → Bool
  | .reset _ | .idle _ | .prime _ => true
  | .tr0000 | .tr0001 | .tr0010 | .tr0011 => true
  | .tr0100 | .tr0101 | .tr0110 | .tr0111 => true
  | .tr1000 | .tr1001 | .tr1010 | .tr1011 => true
  | .tr1100 | .tr1101 | .tr1110 | .tr1111 => true

/-- A pseudo-instruction repeats at least once (R53). -/
def Machine.Statement.wellFormed : Machine.Statement → Bool
  | .core _ => true
  | .idleTimes n => decide (1 ≤ n)
  | .repTick n _ => decide (1 ≤ n)

end Sys2Proof
end

