-- ==== Sys2Proof/Decode.lean ====
section
/-!
DEFINITION. The decoder of the step-selector word (30_encoding.md R49), the opcode table as data, and the encoder. Every
7-bit word selects exactly one step kind (R49, R51); a wider number is no SEL7 word and is rejected by name (log 13).
-/

namespace Sys2Proof

/-- Why the decoder rejects a number. -/
inductive DecodeReject where
  /-- The number does not fit SEL7's seven bits. Safe: the block forms no such word (R49). -/
  | widerThanSel7 (w : Nat)
deriving DecidableEq, Repr

/-- The TR row of a pair (previous state, current state): `011ppcc` selects entry 4·pp + cc (R49). -/
def transitionStep (prev cur : QState) : Instr :=
  match prev, cur with
  | 0b00#2, 0b00#2 => .tr0000
  | 0b00#2, 0b01#2 => .tr0001
  | 0b00#2, 0b10#2 => .tr0010
  | 0b00#2, 0b11#2 => .tr0011
  | 0b01#2, 0b00#2 => .tr0100
  | 0b01#2, 0b01#2 => .tr0101
  | 0b01#2, 0b10#2 => .tr0110
  | 0b01#2, 0b11#2 => .tr0111
  | 0b10#2, 0b00#2 => .tr1000
  | 0b10#2, 0b01#2 => .tr1001
  | 0b10#2, 0b10#2 => .tr1010
  | 0b10#2, 0b11#2 => .tr1011
  | 0b11#2, 0b00#2 => .tr1100
  | 0b11#2, 0b01#2 => .tr1101
  | 0b11#2, 0b10#2 => .tr1110
  | 0b11#2, 0b11#2 => .tr1111

/-- The decoder, total on SEL7 (R49), in the order RESET, IDLE, PRIME, TR of the rows. -/
def decode (w : Sel7) : Instr :=
  if w &&& 0x40#7 = 0x40#7 then .reset (w.extractLsb' 0 6)
  else if w &&& 0x60#7 = 0x00#7 then .idle (w.extractLsb' 0 5)
  else if w &&& 0x70#7 = 0x20#7 then .prime (w.extractLsb' 0 4)
  else transitionStep (w.extractLsb' 2 2) (w.extractLsb' 0 2)

/-- The decoder on any number: SEL7 has seven bits and no more (R52). -/
def decodeNumber (w : Nat) : Except DecodeReject Instr :=
  if w < 128 then .ok (decode (BitVec.ofNat 7 w)) else .error (.widerThanSel7 w)

/-- The host's question: what the decoder reads from a table word of `nbits` bits. -/
def decodeTableWord (nbits w : Nat) : Option Instr :=
  match decodeNumber (w % 2 ^ nbits) with
  | .ok i => some i
  | .error _ => none

/-- The encoder, from R49's patterns. -/
def encode : Instr → Sel7
  | .reset x => 0b1#1 ++ x
  | .idle x => 0b00#2 ++ x
  | .prime x => 0b010#3 ++ x
  | .tr0000 => 0b0110000#7
  | .tr0001 => 0b0110001#7
  | .tr0010 => 0b0110010#7
  | .tr0011 => 0b0110011#7
  | .tr0100 => 0b0110100#7
  | .tr0101 => 0b0110101#7
  | .tr0110 => 0b0110110#7
  | .tr0111 => 0b0110111#7
  | .tr1000 => 0b0111000#7
  | .tr1001 => 0b0111001#7
  | .tr1010 => 0b0111010#7
  | .tr1011 => 0b0111011#7
  | .tr1100 => 0b0111100#7
  | .tr1101 => 0b0111101#7
  | .tr1110 => 0b0111110#7
  | .tr1111 => 0b0111111#7

/-- One row of spec/opcode_table.json: its name, its mask and its match. -/
structure OpcodeRow where
  mnemonic : String
  mask     : Sel7
  matchBits : Sel7
deriving DecidableEq, Repr

/-- A word belongs to a row when it has the row's match under the row's mask. -/
def OpcodeRow.selects (r : OpcodeRow) (w : Sel7) : Bool := w &&& r.mask == r.matchBits

/-- The first rows of spec/opcode_table.json: RESET, IDLE, PRIME. -/
def controlRows : List OpcodeRow :=
  [⟨"RESET", 0x40#7, 0x40#7⟩, ⟨"IDLE", 0x60#7, 0x00#7⟩, ⟨"PRIME", 0x70#7, 0x20#7⟩]

/-- The sixteen TR rows of spec/opcode_table.json. -/
def transitionRows : List OpcodeRow :=
  [⟨"TR.00.00", 0x7F#7, 0x30#7⟩, ⟨"TR.00.01", 0x7F#7, 0x31#7⟩, ⟨"TR.00.10", 0x7F#7, 0x32#7⟩, ⟨"TR.00.11", 0x7F#7, 0x33#7⟩]
  ++ [⟨"TR.01.00", 0x7F#7, 0x34#7⟩, ⟨"TR.01.01", 0x7F#7, 0x35#7⟩, ⟨"TR.01.10", 0x7F#7, 0x36#7⟩, ⟨"TR.01.11", 0x7F#7, 0x37#7⟩]
  ++ [⟨"TR.10.00", 0x7F#7, 0x38#7⟩, ⟨"TR.10.01", 0x7F#7, 0x39#7⟩, ⟨"TR.10.10", 0x7F#7, 0x3A#7⟩, ⟨"TR.10.11", 0x7F#7, 0x3B#7⟩]
  ++ [⟨"TR.11.00", 0x7F#7, 0x3C#7⟩, ⟨"TR.11.01", 0x7F#7, 0x3D#7⟩, ⟨"TR.11.10", 0x7F#7, 0x3E#7⟩, ⟨"TR.11.11", 0x7F#7, 0x3F#7⟩]

/-- spec/opcode_table.json, 19 rows. -/
def opcodeTable : List OpcodeRow := controlRows ++ transitionRows

/-- The mnemonic of a step kind, as spec/opcode_table.json spells it. -/
def Instr.mnemonic : Instr → String
  | .reset _ => "RESET"
  | .idle _ => "IDLE"
  | .prime _ => "PRIME"
  | .tr0000 => "TR.00.00"
  | .tr0001 => "TR.00.01"
  | .tr0010 => "TR.00.10"
  | .tr0011 => "TR.00.11"
  | .tr0100 => "TR.01.00"
  | .tr0101 => "TR.01.01"
  | .tr0110 => "TR.01.10"
  | .tr0111 => "TR.01.11"
  | .tr1000 => "TR.10.00"
  | .tr1001 => "TR.10.01"
  | .tr1010 => "TR.10.10"
  | .tr1011 => "TR.10.11"
  | .tr1100 => "TR.11.00"
  | .tr1101 => "TR.11.01"
  | .tr1110 => "TR.11.10"
  | .tr1111 => "TR.11.11"

/-- The lookup entry a TR step takes (R49: idx = 4·pp + cc); the other step kinds take none. -/
def Instr.entry? : Instr → Option LutIndex
  | .reset _ => none
  | .idle _ => none
  | .prime _ => none
  | .tr0000 => some 0#4
  | .tr0001 => some 1#4
  | .tr0010 => some 2#4
  | .tr0011 => some 3#4
  | .tr0100 => some 4#4
  | .tr0101 => some 5#4
  | .tr0110 => some 6#4
  | .tr0111 => some 7#4
  | .tr1000 => some 8#4
  | .tr1001 => some 9#4
  | .tr1010 => some 10#4
  | .tr1011 => some 11#4
  | .tr1100 => some 12#4
  | .tr1101 => some 13#4
  | .tr1110 => some 14#4
  | .tr1111 => some 15#4

end Sys2Proof
end

