-- ==== Sys2Proof/Machine/Lookup.lean ====
section
/-!
DEFINITION. The decoder core (41_transition_lookup.md): the fixed 16-entry transition table as a pure function (10_state.md
R29), the RotationDelta and its port code (30_encoding.md R47), the clockwise cycle (R43), the transition classes (R46) and
the two closed forms of the table (R80, R81).
-/

namespace Sys2Proof.Machine

/-- RotationDelta (R47). -/
inductive RotationDelta where
  | clockwise
  | noChange
  | counterClockwise
deriving DecidableEq, Repr

/-- The value of a RotationDelta (R47). -/
def RotationDelta.value : RotationDelta → Int
  | .clockwise => 1
  | .noChange => 0
  | .counterClockwise => -1

/-- The port code of a RotationDelta (R47). -/
def RotationDelta.code : RotationDelta → DeltaCode
  | .clockwise => 0b01#2
  | .noChange => 0b00#2
  | .counterClockwise => 0b11#2

/-- What a consumer reads from a port code. The code 0b10 is reserved and refused (R47, R51, 93 I4; log 14). -/
def RotationDelta.ofCode (c : DeltaCode) : Option RotationDelta :=
  match c with
  | 0b00#2 => some .noChange
  | 0b01#2 => some .clockwise
  | 0b10#2 => none
  | 0b11#2 => some .counterClockwise

/-- `sext(c)`: the two's-complement reading of a port code (R48). -/
def sext (c : DeltaCode) : Int := c.toInt

/-- The transition classes (R46). -/
inductive TransitionClass where
  | hold
  | cw
  | ccw
  | diag
deriving DecidableEq, Repr

/-- The successor in the clockwise cycle 00, 01, 11, 10 (R43). -/
def nextCw (q : QState) : QState :=
  match q with
  | 0b00#2 => 0b01#2
  | 0b01#2 => 0b11#2
  | 0b10#2 => 0b00#2
  | 0b11#2 => 0b10#2

/-- The successor in the counter-clockwise cycle (R43). -/
def nextCcw (q : QState) : QState :=
  match q with
  | 0b00#2 => 0b10#2
  | 0b01#2 => 0b00#2
  | 0b10#2 => 0b11#2
  | 0b11#2 => 0b01#2

/-- The class of a transition, by the relation of the current state to the previous one (R46). -/
def classify (prev cur : QState) : TransitionClass :=
  if cur = prev then .hold
  else if cur = nextCw prev then .cw
  else if cur = nextCcw prev then .ccw
  else .diag

/-- The two results of a lookup (R61): the delta's port code and the degraded-input flag. -/
structure LookupResult where
  delta : DeltaCode
  amb   : Bool
deriving DecidableEq, Repr

/-- The transition index `{prev_q, cur_q}` (R45). -/
def lutIndex (prev cur : QState) : LutIndex := prev ++ cur

/-- LUT: the sixteen entries, each as its own rule gives it (R62 to R77; the diagonal policy: log 9). -/
def lut (idx : LutIndex) : LookupResult :=
  match idx.extractLsb' 2 2, idx.extractLsb' 0 2 with
  | 0b00#2, 0b00#2 => ⟨0b00#2, false⟩  -- R62, HOLD
  | 0b00#2, 0b01#2 => ⟨0b01#2, false⟩  -- R63, CW
  | 0b00#2, 0b10#2 => ⟨0b11#2, false⟩  -- R64, CCW
  | 0b00#2, 0b11#2 => ⟨0b00#2, true⟩  -- R65, DIAG
  | 0b01#2, 0b00#2 => ⟨0b11#2, false⟩  -- R66, CCW
  | 0b01#2, 0b01#2 => ⟨0b00#2, false⟩  -- R67, HOLD
  | 0b01#2, 0b10#2 => ⟨0b00#2, true⟩  -- R68, DIAG
  | 0b01#2, 0b11#2 => ⟨0b01#2, false⟩  -- R69, CW
  | 0b10#2, 0b00#2 => ⟨0b01#2, false⟩  -- R70, CW
  | 0b10#2, 0b01#2 => ⟨0b00#2, true⟩  -- R71, DIAG
  | 0b10#2, 0b10#2 => ⟨0b00#2, false⟩  -- R72, HOLD
  | 0b10#2, 0b11#2 => ⟨0b11#2, false⟩  -- R73, CCW
  | 0b11#2, 0b00#2 => ⟨0b00#2, true⟩  -- R74, DIAG
  | 0b11#2, 0b01#2 => ⟨0b11#2, false⟩  -- R75, CCW
  | 0b11#2, 0b10#2 => ⟨0b01#2, false⟩  -- R76, CW
  | 0b11#2, 0b11#2 => ⟨0b00#2, false⟩  -- R77, HOLD

/-- `decode(cur_q, prev_q)`, the contract of the lookup core (R61). -/
def decodeTransition (cur prev : QState) : LookupResult := lut (lutIndex prev cur)

/-- `phi(q)`, the position of a state in the clockwise cycle (R80): `{q[1], q[1] XOR q[0]}`. -/
def phi (q : QState) : BitVec 2 := BitVec.ofBool (q.getLsbD 1) ++ BitVec.ofBool (q.getLsbD 1 ^^ q.getLsbD 0)

/-- The result for a move of `d` steps modulo 4 (R80, R115). -/
def resultOfMove (d : BitVec 2) : LookupResult :=
  match d with
  | 0b00#2 => ⟨0b00#2, false⟩
  | 0b01#2 => ⟨0b01#2, false⟩
  | 0b10#2 => ⟨0b00#2, true⟩
  | 0b11#2 => ⟨0b11#2, false⟩

/-- The closed form by cycle position (R80). -/
def phiForm (prev cur : QState) : LookupResult := resultOfMove (phi cur - phi prev)

/-- The closed form by bits (R81). -/
def bitForm (prev cur : QState) : LookupResult :=
  let x := prev ^^^ cur
  if x = 0b00#2 then ⟨0b00#2, false⟩
  else if x = 0b11#2 then ⟨0b00#2, true⟩
  else if prev.getLsbD 0 = cur.getLsbD 1 then ⟨0b01#2, false⟩
  else ⟨0b11#2, false⟩

end Sys2Proof.Machine
end

