-- ==== Sys2Proof/Config.lean ====
section
/-!
DEFINITION. What is fixed for one machine but left open by the spec: the free values (constants without a body, so no
proof can see what they are) and the two time parameters of 00_scope.md R9.
-/

namespace Sys2Proof.Config

/-- Free value: what a bit of `pins` that changes at edge number `n` is sampled as, one bit per line
(70_reset_and_hazards.md R119, 93 I5, I6; log 4). -/
opaque changingDraw : Nat → BitVec 4

/-- Free value: `rst` at edge number `n` once the listed inputs are used up (log 2). -/
opaque hostRst : Nat → Bool

/-- Free value: `tick` at edge number `n` once the listed inputs are used up (log 2). -/
opaque hostTick : Nat → Bool

/-- Free value: `pins` at edge number `n` once the listed inputs are used up (log 2). -/
opaque hostPins : Nat → PinSample

/-- Free value: `prev_q` before the first reset (10_state.md R28, 93 I2; log 8). -/
opaque powerUpPrevQ : QState

/-- Free value: `prev_valid` before the first reset (R28; log 8). -/
opaque powerUpPrevValid : Bool

/-- Free value: `delta_r` before the first reset (R28; log 8). It may be the reserved code. -/
opaque powerUpDeltaR : DeltaCode

/-- Free value: `amb_r` before the first reset (R28; log 8). -/
opaque powerUpAmbR : Bool

/-- Free value: `btn_r` before the first reset (R28; log 8). -/
opaque powerUpBtnR : Bool

/-- Free value: `swt_r` before the first reset (R28; log 8). -/
opaque powerUpSwtR : Bool

/-- Free value: `upd_r` before the first reset (R28; log 8). -/
opaque powerUpUpdR : Bool

/-- The open time parameters CLK_PERIOD and TICK_PERIOD (R9), in any one unit of time. The step never reads them;
only the host's tick schedule does (log 11). -/
structure Timing where
  clkPeriod  : Nat
  tickPeriod : Nat
deriving DecidableEq, Repr

/-- R9: TICK_PERIOD is a whole number of CLK_PERIODs, at least one. -/
abbrev Timing.Legal (t : Timing) : Prop :=
  0 < t.clkPeriod ∧ 0 < t.tickPeriod ∧ t.tickPeriod % t.clkPeriod = 0

/-- The clock cycles from one tick to the next (R9). -/
def Timing.edgesPerTick (t : Timing) : Nat := t.tickPeriod / t.clkPeriod

end Sys2Proof.Config
end

