-- ==== Sys2Proof/Machine/Operands.lean ====
section
/-!
DEFINITION. What a step reads: the input ports at the edge, the pin sample (40_sampler.md R55), its fields (R56 to R58), and
the step-selector word the block forms (30_encoding.md R49).
-/

namespace Sys2Proof.Machine

/-- What the host drives at edge number `n` when the model's user listed nothing for it: free values (log 2). -/
def unlistedInput (n : Nat) : EdgeInput where
  rst := Config.hostRst n
  tick := Config.hostTick n
  pins := Config.hostPins n
  changing := 0b0000#4

/-- The input ports at the coming edge (R22). -/
def State.input (s : State) : EdgeInput :=
  match s.inputs with
  | [] => unlistedInput s.edgeNo
  | e :: _ => e

/-- One line as it is sampled: as driven, or a free draw when it changes at the edge (R119; log 4). -/
def EdgeInput.line (e : EdgeInput) (n i : Nat) : Bool :=
  if e.changing.getLsbD i then (Config.changingDraw n).getLsbD i else e.pins.getLsbD i

/-- The four lines, taken at one instant (R33, R35), SWT in the high bit (R41). -/
def EdgeInput.sample (e : EdgeInput) (n : Nat) : PinSample :=
  BitVec.ofBool (e.line n 3) ++ BitVec.ofBool (e.line n 2) ++ BitVec.ofBool (e.line n 1) ++ BitVec.ofBool (e.line n 0)

/-- `SamplePins()` (R55). -/
def samplePins (s : State) : PinSample := s.input.sample s.edgeNo

/-- `cur_q = s[1:0] = {B, A}` (R42, R56). -/
def curQ (p : PinSample) : QState := p.extractLsb' 0 2

/-- `button_pressed(s) = (s[2] == 1)`, a level test (R57). -/
def buttonPressed (p : PinSample) : Bool := p.getLsbD 2

/-- `switch_on(s) = (s[3] == 1)`, a level test (R58). -/
def switchOn (p : PinSample) : Bool := p.getLsbD 3

/-- The step-selector word of the coming edge (R49). -/
def sel7 (s : State) : Sel7 :=
  BitVec.ofBool s.input.rst ++ BitVec.ofBool s.input.tick ++ BitVec.ofBool s.prevValid ++ s.prevQ ++ curQ (samplePins s)

end Sys2Proof.Machine
end

