-- ==== Sys2Proof/Machine/Flags.lean ====
section
/-!
DEFINITION. The output registers and how an edge writes them: the pulses `delta_r`, `amb_r`, `upd_r` and the levels `btn_r`,
`swt_r` (10_state.md R17 to R21, R27). The block has no condition codes.
-/

namespace Sys2Proof.Machine

/-- The output ports (R23). -/
structure Outputs where
  delta : DeltaCode
  amb   : Bool
  btn   : Bool
  swt   : Bool
  upd   : Bool
deriving DecidableEq, Repr

/-- Every output port is driven directly by its register (R23). -/
def State.outputs (s : State) : Outputs := ⟨s.deltaR, s.ambR, s.btnR, s.swtR, s.updR⟩

/-- A non-tick edge clears the pulses (R90). -/
def State.clearPulses (s : State) : State := { s with deltaR := 0b00#2, ambR := false, updR := false }

/-- A tick edge shows its result for one cycle (R91). -/
def State.showResult (s : State) (r : LookupResult) : State :=
  { s with deltaR := r.delta, ambR := r.amb, updR := true }

/-- A tick edge latches the button and switch levels of its sample (R19, R20, R91). -/
def State.latchLevels (s : State) (p : PinSample) : State :=
  { s with btnR := buttonPressed p, swtR := switchOn p }

end Sys2Proof.Machine
end

