-- ==== Sys2Proof/Machine/Ops.lean ====
section
/-!
DEFINITION. The operations the steps share: the reset writes (42_tick_machine.md R89), a tick's writes (R91), the end of an
edge, and the state before the first reset (10_state.md R28). The block has no memory (20_memory.md R30) and takes no
exception (60_exceptions.md R98, R104), so there is no memory access and no exception entry or return to write.
-/

namespace Sys2Proof.Machine

/-- All seven registers take their reset values together (R89, R111). -/
def State.resetRegisters (s : State) : State :=
  { s with
    prevQ := 0b00#2, prevValid := false, deltaR := 0b00#2, ambR := false, btnR := false, swtR := false, updR := false }

/-- The sampled state becomes the previous state, on every tick (R87, R88). -/
def State.storePrev (s : State) (q : QState) : State := { s with prevQ := q, prevValid := true }

/-- The result a PRIME reports: no motion, no ambiguity (R87). -/
def noMotion : LookupResult := ⟨0b00#2, false⟩

/-- All writes of one tick edge, given its lookup result; every read is of the state before the edge (R91, R93). -/
def State.takeTick (s : State) (r : LookupResult) : State :=
  let p := samplePins s
  ((s.storePrev (curQ p)).showResult r).latchLevels p

/-- The edge is over: the host's next input word is due, and free values are drawn by the next number. -/
def State.endEdge (s : State) : State := { s with inputs := s.inputs.tail, edgeNo := s.edgeNo + 1 }

/-- Puts a selector word's own bits in place: `prev_valid` and `prev_q` are registers, `rst`, `tick` and `pins[1:0]` are what
the host drives at the coming edge (R49). The other lines stay as driven (0 where nothing was listed). -/
def State.driveSelector (s : State) (w : Sel7) : State :=
  let e := s.inputs.headD ⟨false, false, 0b0000#4, 0b0000#4⟩
  { s with
    prevValid := w.getLsbD 4
    prevQ := w.extractLsb' 2 2
    inputs :=
      ⟨w.getLsbD 6, w.getLsbD 5, e.pins.extractLsb' 2 2 ++ w.extractLsb' 0 2, e.changing.extractLsb' 2 2 ++ 0b00#2⟩ ::
        s.inputs.tail }

/-- Before the first reset: every register is a free draw (R28, R112; log 8). -/
def State.powerUp (inputs : List EdgeInput) : State where
  prevQ := Config.powerUpPrevQ
  prevValid := Config.powerUpPrevValid
  deltaR := Config.powerUpDeltaR
  ambR := Config.powerUpAmbR
  btnR := Config.powerUpBtnR
  swtR := Config.powerUpSwtR
  updR := Config.powerUpUpdR
  inputs := inputs
  edgeNo := 0

end Sys2Proof.Machine
end

