-- ==== Sys2Proof/Machine/Control.lean ====
section
/-!
DEFINITION. The steps RESET, IDLE and PRIME (42_tick_machine.md R89, R90, R87).
-/

namespace Sys2Proof.Machine

/-- RESET (R89): `pins` is not sampled. -/
def execReset (s : State) : Host.Outcome State Fault Refusal := .next s.resetRegisters

/-- IDLE (R90): the pulses clear, everything else holds, `pins` is not sampled. -/
def execIdle (s : State) : Host.Outcome State Fault Refusal := .next s.clearPulses

/-- PRIME (R87): the first tick after a reset reports no motion; `prev_q` is not read. -/
def execPrime (s : State) : Host.Outcome State Fault Refusal := .next (s.takeTick noMotion)

end Sys2Proof.Machine
end

