-- ==== Sys2Proof/Machine/Transition.lean ====
section
/-!
DEFINITION. The sixteen TR.pp.cc steps (42_tick_machine.md R88, R91), each with its own lookup entry
(41_transition_lookup.md R62 to R77). The step is taken on a tick that samples state cc while `prev_q` = pp; what the
definitions answer elsewhere is log 6.
-/

namespace Sys2Proof.Machine

/-- TR.00.00, class HOLD (R62, R88). -/
def execTr0000 (s : State) : Host.Outcome State Fault Refusal := .next (s.takeTick (lut 0#4))

/-- TR.00.01, class CW (R63, R88). -/
def execTr0001 (s : State) : Host.Outcome State Fault Refusal := .next (s.takeTick (lut 1#4))

/-- TR.00.10, class CCW (R64, R88). -/
def execTr0010 (s : State) : Host.Outcome State Fault Refusal := .next (s.takeTick (lut 2#4))

/-- TR.00.11, class DIAG (R65, R88). -/
def execTr0011 (s : State) : Host.Outcome State Fault Refusal := .next (s.takeTick (lut 3#4))

/-- TR.01.00, class CCW (R66, R88). -/
def execTr0100 (s : State) : Host.Outcome State Fault Refusal := .next (s.takeTick (lut 4#4))

/-- TR.01.01, class HOLD (R67, R88). -/
def execTr0101 (s : State) : Host.Outcome State Fault Refusal := .next (s.takeTick (lut 5#4))

/-- TR.01.10, class DIAG (R68, R88). -/
def execTr0110 (s : State) : Host.Outcome State Fault Refusal := .next (s.takeTick (lut 6#4))

/-- TR.01.11, class CW (R69, R88). -/
def execTr0111 (s : State) : Host.Outcome State Fault Refusal := .next (s.takeTick (lut 7#4))

/-- TR.10.00, class CW (R70, R88). -/
def execTr1000 (s : State) : Host.Outcome State Fault Refusal := .next (s.takeTick (lut 8#4))

/-- TR.10.01, class DIAG (R71, R88). -/
def execTr1001 (s : State) : Host.Outcome State Fault Refusal := .next (s.takeTick (lut 9#4))

/-- TR.10.10, class HOLD (R72, R88). -/
def execTr1010 (s : State) : Host.Outcome State Fault Refusal := .next (s.takeTick (lut 10#4))

/-- TR.10.11, class CCW (R73, R88). -/
def execTr1011 (s : State) : Host.Outcome State Fault Refusal := .next (s.takeTick (lut 11#4))

/-- TR.11.00, class DIAG (R74, R88). -/
def execTr1100 (s : State) : Host.Outcome State Fault Refusal := .next (s.takeTick (lut 12#4))

/-- TR.11.01, class CCW (R75, R88). -/
def execTr1101 (s : State) : Host.Outcome State Fault Refusal := .next (s.takeTick (lut 13#4))

/-- TR.11.10, class CW (R76, R88). -/
def execTr1110 (s : State) : Host.Outcome State Fault Refusal := .next (s.takeTick (lut 14#4))

/-- TR.11.11, class HOLD (R77, R88). -/
def execTr1111 (s : State) : Host.Outcome State Fault Refusal := .next (s.takeTick (lut 15#4))

end Sys2Proof.Machine
end

