-- ==== Sys2Proof/Machine/Dispatch.lean ====
section
/-! DEFINITION. The one dispatch: each step kind calls its own meaning. -/

namespace Sys2Proof.Machine

def exec (i : Instr) (s : State) : Host.Outcome State Fault Refusal :=
  match i with
  | .reset _ => Sys2Proof.Machine.execReset s
  | .idle _ => Sys2Proof.Machine.execIdle s
  | .prime _ => Sys2Proof.Machine.execPrime s
  | .tr0000 => Sys2Proof.Machine.execTr0000 s
  | .tr0001 => Sys2Proof.Machine.execTr0001 s
  | .tr0010 => Sys2Proof.Machine.execTr0010 s
  | .tr0011 => Sys2Proof.Machine.execTr0011 s
  | .tr0100 => Sys2Proof.Machine.execTr0100 s
  | .tr0101 => Sys2Proof.Machine.execTr0101 s
  | .tr0110 => Sys2Proof.Machine.execTr0110 s
  | .tr0111 => Sys2Proof.Machine.execTr0111 s
  | .tr1000 => Sys2Proof.Machine.execTr1000 s
  | .tr1001 => Sys2Proof.Machine.execTr1001 s
  | .tr1010 => Sys2Proof.Machine.execTr1010 s
  | .tr1011 => Sys2Proof.Machine.execTr1011 s
  | .tr1100 => Sys2Proof.Machine.execTr1100 s
  | .tr1101 => Sys2Proof.Machine.execTr1101 s
  | .tr1110 => Sys2Proof.Machine.execTr1110 s
  | .tr1111 => Sys2Proof.Machine.execTr1111 s

end Sys2Proof.Machine
end

