-- ==== Sys2Proof/Machine/Step.lean ====
section
/-!
DEFINITION. One step: one rising clock edge (42_tick_machine.md R92). The block forms SEL7 from its input ports and
registers, takes the one step kind it selects, and the edge ends.
-/

namespace Sys2Proof.Machine

def step (s : State) : Host.Outcome State Fault Refusal :=
  match exec (decode (sel7 s)) s with
  | .next t => .next t.endEdge
  | .fault r => .fault r
  | .refused r => .refused r

/-- The state whose next edge forms the selector word `w`: nothing is fetched (10_state.md R13), so the word's bits are put
where the block takes them from (log 1). -/
def State.withFetchWord (s : State) (nbits w : Nat) : State := s.driveSelector (BitVec.ofNat 7 (w % 2 ^ nbits))

end Sys2Proof.Machine
end

