-- ==== Sys2Proof/Machine/Environment.lean ====
section
/-!
DEFINITION. The host around the block, as far as the spec describes it: the encoder's position along the cycle
(70_reset_and_hazards.md R114, R115), the tick schedule (00_scope.md R9, R113), and the consumer that adds up the outputs
(42_tick_machine.md R97, 60_exceptions.md R101). None of it is state of the block.
-/

namespace Sys2Proof.Machine

/-- `n` successive steps of a function. -/
def times (f : QState → QState) : Nat → QState → QState
  | 0, q => q
  | n + 1, q => times f n (f q)

/-- The state a net move of `m` steps leads to, positive for clockwise (R115; log 15). -/
def moveSteps (q : QState) (m : Int) : QState :=
  match m with
  | .ofNat n => times nextCw n q
  | .negSucc n => times nextCcw (n + 1) q

/-- The encoder's state at a position; position 0 is state 00 (log 15). -/
def encoderState (pos : Int) : QState := moveSteps 0b00#2 pos

/-- An edge that takes a tick with a stable sample. -/
def tickEdge (p : PinSample) : EdgeInput := ⟨false, true, p, 0b0000#4⟩

/-- An edge without tick and reset; its pins do not matter (R90). -/
def idleEdge : EdgeInput := ⟨false, false, 0b0000#4, 0b0000#4⟩

/-- A reset edge; its pins do not matter (R89). -/
def resetEdge : EdgeInput := ⟨true, false, 0b0000#4, 0b0000#4⟩

/-- The host's boot and tick schedule (R113): one reset edge, then a tick every `n` clock cycles. -/
def bootSchedule (n : Nat) (samples : List PinSample) : List EdgeInput :=
  resetEdge :: samples.flatMap fun p => tickEdge p :: List.replicate (n - 1) idleEdge

/-- The consumer's count when it adds `sext(delta)` in every cycle (R97). -/
def countEveryCycle (outs : List Outputs) : Int := (outs.map fun o => sext o.delta).sum

/-- The consumer's count when it adds `sext(delta)` only where `upd` = 1 (R97). -/
def countWhenUpd (outs : List Outputs) : Int := ((outs.filter fun o => o.upd).map fun o => sext o.delta).sum

/-- The external diagnostic counter: cycles with `amb` = 1 (R101). -/
def countAmb (outs : List Outputs) : Nat := outs.countP fun o => o.amb

/-- The RotationDelta of a transition class (R46, R47). -/
def TransitionClass.rotation : TransitionClass → RotationDelta
  | .hold => .noChange
  | .cw => .clockwise
  | .ccw => .counterClockwise
  | .diag => .noChange

end Sys2Proof.Machine
end

