-- ==== Sys2Proof/Machine/Tick.lean ====
section
/-!
DEFINITION. The tick level: the step `T` of 42_tick_machine.md R86, the reference semantics (00_scope.md R7).
-/

namespace Sys2Proof.Machine

/-- The tick-level state TS (R86). -/
structure TickState where
  prevValid : Bool
  prevQ     : QState
deriving DecidableEq, Repr

/-- The tick-level output (R86). -/
structure TickOutput where
  delta : DeltaCode
  amb   : Bool
  btn   : Bool
  swt   : Bool
deriving DecidableEq, Repr

/-- `T((pv, pq), s)` (R86). -/
def tickStep (ts : TickState) (p : PinSample) : TickState × TickOutput :=
  let cq := curQ p
  let r := if ts.prevValid then lut (lutIndex ts.prevQ cq) else noMotion
  (⟨true, cq⟩, ⟨r.delta, r.amb, buttonPressed p, switchOn p⟩)

/-- Consecutive ticks: the outputs in order. -/
def tickRun : TickState → List PinSample → List TickOutput
  | _, [] => []
  | ts, p :: ps => (tickStep ts p).2 :: tickRun (tickStep ts p).1 ps

/-- The tick-level view of a clock-level state (10_state.md R12). -/
def State.tickState (s : State) : TickState := ⟨s.prevValid, s.prevQ⟩

/-- The tick-level part of the output ports. -/
def State.tickOutput (s : State) : TickOutput := ⟨s.deltaR, s.ambR, s.btnR, s.swtR⟩

/-- The variant of 10_state.md R16: it stores the whole previous 4-bit sample, and only its bits 1:0 are read. -/
structure WideTickState where
  prevValid  : Bool
  prevSample : PinSample
deriving DecidableEq, Repr

/-- One tick of the variant of R16. -/
def wideTickStep (ts : WideTickState) (p : PinSample) : WideTickState × TickOutput :=
  let r := if ts.prevValid then lut (lutIndex (curQ ts.prevSample) (curQ p)) else noMotion
  (⟨true, p⟩, ⟨r.delta, r.amb, buttonPressed p, switchOn p⟩)

/-- Consecutive ticks of the variant of R16. -/
def wideTickRun : WideTickState → List PinSample → List TickOutput
  | _, [] => []
  | ts, p :: ps => (wideTickStep ts p).2 :: wideTickRun (wideTickStep ts p).1 ps

end Sys2Proof.Machine
end

