-- ==== Sys2Proof/Machine/Run.lean ====
section
/-!
DEFINITION. Runs of the machine and what is seen of them: the states, outputs, step kinds and tick-level events of
consecutive edges.
-/

namespace Sys2Proof.Machine

/-- `k` edges, stopping at the first fault or refusal. -/
def runEdges : Nat → State → Host.Outcome State Fault Refusal
  | 0, s => .next s
  | k + 1, s =>
    match step s with
    | .next t => runEdges k t
    | .fault r => .fault r
    | .refused r => .refused r

/-- What the consumer sees in the cycles after the next `k` edges (20_memory.md R37). -/
def outputsOf : Nat → State → List Outputs
  | 0, _ => []
  | k + 1, s =>
    match step s with
    | .next t => t.outputs :: outputsOf k t
    | .fault _ => []
    | .refused _ => []

/-- The step kinds taken at the next `k` edges (R92). -/
def stepsOf : Nat → State → List Instr
  | 0, _ => []
  | k + 1, s =>
    match step s with
    | .next t => decode (sel7 s) :: stepsOf k t
    | .fault _ => []
    | .refused _ => []

/-- What happens at the tick level: a reset, or a tick with its sample. An idle edge is no event (R7). -/
inductive TickEvent where
  | reset
  | tick (p : PinSample)
deriving DecidableEq, Repr

/-- The event of the coming edge. -/
def edgeEvent (s : State) : List TickEvent :=
  if s.input.rst then [.reset]
  else if s.input.tick then [.tick (samplePins s)]
  else []

/-- The events of the next `k` edges. -/
def eventsOf : Nat → State → List TickEvent
  | 0, _ => []
  | k + 1, s =>
    match step s with
    | .next t => edgeEvent s ++ eventsOf k t
    | .fault _ => []
    | .refused _ => []

/-- The tick-level machine run over events: its outputs in order. -/
def tickOutputs : TickState → List TickEvent → List TickOutput
  | _, [] => []
  | _, .reset :: es => tickOutputs ⟨false, 0b00#2⟩ es
  | ts, .tick p :: es => (tickStep ts p).2 :: tickOutputs (tickStep ts p).1 es

/-- The tick-level machine run over events: its last state. -/
def tickFinal : TickState → List TickEvent → TickState
  | ts, [] => ts
  | _, .reset :: es => tickFinal ⟨false, 0b00#2⟩ es
  | ts, .tick p :: es => tickFinal (tickStep ts p).1 es

/-- The tick-level part of the outputs. -/
def Outputs.ofTick (o : Outputs) : TickOutput := ⟨o.delta, o.amb, o.btn, o.swt⟩

/-- The RotationDelta a step kind reports, by the class of its entry (R46, R97); RESET, IDLE and PRIME report none. -/
def stepMotion (i : Instr) : Int :=
  match i.entry? with
  | none => 0
  | some idx => (classify (idx.extractLsb' 2 2) (idx.extractLsb' 0 2)).rotation.value

/-- A step kind is a diagonal TR tick (R99). -/
def isDiagonal (i : Instr) : Bool :=
  match i.entry? with
  | none => false
  | some idx => classify (idx.extractLsb' 2 2) (idx.extractLsb' 0 2) == .diag

end Sys2Proof.Machine
end

