-- ==== Sys2Proof/Safety.lean ====
section
/-!
DEFINITION. What counts as a safe state and a safe host, in the terms the statements use. The block has no unsafe stop: no
step faults or refuses (60_exceptions.md R98).
-/

namespace Sys2Proof.Safety

open Sys2Proof.Machine

/-- The invariant of the machine. The reserved delta code is never held (30_encoding.md R51); `amb` never comes with a nonzero
delta (41_transition_lookup.md R84); the pulses are clear unless a tick was just taken (10_state.md R17, R18, R21); and
until the first tick after a reset every register holds its reset value (70_reset_and_hazards.md R111, R120). -/
abbrev StateInv (s : State) : Prop :=
  s.deltaR ≠ 0b10#2 ∧
  (s.ambR = true → s.deltaR = 0b00#2) ∧
  (s.updR = false → s.deltaR = 0b00#2 ∧ s.ambR = false) ∧
  (s.prevValid = false →
    s.prevQ = 0b00#2 ∧ s.deltaR = 0b00#2 ∧ s.ambR = false ∧ s.btnR = false ∧ s.swtR = false ∧ s.updR = false)

/-- The sampling-rate premise (R114): between two consecutive ticks the encoder moves by at most one step. -/
def SamplingPremise : List Int → Prop
  | [] => True
  | [_] => True
  | p :: q :: ps => -1 ≤ q - p ∧ q - p ≤ 1 ∧ SamplingPremise (q :: ps)

end Sys2Proof.Safety
end

