-- ==== Sys2Proof/Certificates/Slice0/Obligations.lean ====
section
/-!
DEFINITION. The statements for the provers. Each docstring names the rule of spec/ it formalises. A statement over every
state also covers states no run reaches; where that would make it false, `Safety.StateInv` is its premise.
-/

namespace Sys2Proof.Stated

open Sys2Proof Sys2Proof.Machine

/-- The seven registers hold their reset values (R89, R111). -/
abbrev RegistersReset (s : State) : Prop :=
  s.prevQ = 0b00#2 ∧ s.prevValid = false ∧ s.deltaR = 0b00#2 ∧ s.ambR = false ∧ s.btnR = false ∧ s.swtR = false ∧
    s.updR = false

/-- The coming edge is a tick edge: `rst` = 0 and `tick` = 1. -/
abbrev TickEdge (s : State) : Prop := s.input.rst = false ∧ s.input.tick = true

/-- The rule of one lookup entry, previous state `pp`, current state `cc`: its word and index, its result, and the whole next
state of its step wherever the step is selected (R88, R91). -/
def EntryRule (i : Instr) (pp cc : QState) (d : DeltaCode) (a : Bool) : Prop :=
  encode i = 0b011#3 ++ pp ++ cc ∧ i.entry? = some (pp ++ cc) ∧ lut (pp ++ cc) = ⟨d, a⟩ ∧
  ∀ s : State, TickEdge s → s.prevValid = true → s.prevQ = pp → (samplePins s).extractLsb' 0 2 = cc →
    decode (sel7 s) = i ∧
    exec i s = .next { s with
      prevQ := cc, prevValid := true, deltaR := d, ambR := a, btnR := (samplePins s).getLsbD 2,
      swtR := (samplePins s).getLsbD 3, updR := true }

/-- Two input words agree in all that decides motion: `rst`, `tick` and the lines A and B. -/
abbrev SameMotionInput (e f : EdgeInput) : Prop :=
  e.rst = f.rst ∧ e.tick = f.tick ∧ e.pins.extractLsb' 0 2 = f.pins.extractLsb' 0 2 ∧
    e.changing.extractLsb' 0 2 = f.changing.extractLsb' 0 2

/-- Two input words agree in all but the lines A and B. -/
abbrev SameLevelInput (e f : EdgeInput) : Prop :=
  e.rst = f.rst ∧ e.tick = f.tick ∧ e.pins.extractLsb' 2 2 = f.pins.extractLsb' 2 2 ∧
    e.changing.extractLsb' 2 2 = f.changing.extractLsb' 2 2

end Sys2Proof.Stated

open Sys2Proof Sys2Proof.Machine Sys2Proof.Safety Sys2Proof.Stated

/-! Decoding and step selection. -/

/-- Words written out from the patterns of R49 decode to the steps they stand for; a byte with bit 7 set is no SEL7 word (the
model's choice, log 13). -/
def Obligations.DecodeReadsWrittenWords : Prop :=
  decode 0b1000000#7 = .reset 0#6 ∧ decode 0b0000000#7 = .idle 0#5 ∧ decode 0b0100011#7 = .prime 0b0011#4 ∧
  decode 0b0110001#7 = .tr0001 ∧ decode 0b0110110#7 = .tr0110 ∧ decode 0b0111110#7 = .tr1110 ∧
  decodeTableWord 8 0x3F = some .tr1111 ∧ decodeTableWord 8 0xBF = none

/-- R49: the fields of SEL7, and each of the 128 words selects exactly one row, by the patterns of the rule's table. -/
def Obligations.SelectorWordSelectsOneStep : Prop :=
  (∀ s : State, (sel7 s).getLsbD 6 = s.input.rst ∧ (sel7 s).getLsbD 5 = s.input.tick ∧
    (sel7 s).getLsbD 4 = s.prevValid ∧ (sel7 s).extractLsb' 2 2 = s.prevQ ∧
    (sel7 s).extractLsb' 0 2 = (samplePins s).extractLsb' 0 2) ∧
  ∀ w : Sel7,
    (w &&& 0x40#7 = 0x40#7 ↔ ∃ x, decode w = .reset x) ∧
    (w &&& 0x60#7 = 0x00#7 ↔ ∃ x, decode w = .idle x) ∧
    (w &&& 0x70#7 = 0x20#7 ↔ ∃ x, decode w = .prime x) ∧
    (∀ pp cc : QState, w &&& 0x7F#7 = 0x30#7 + 4#7 * pp.setWidth 7 + cc.setWidth 7 ↔ decode w = transitionStep pp cc) ∧
    opcodeTable.countP (·.selects w) = 1 ∧
    (opcodeTable.find? (·.selects w)).map (·.mnemonic) = some (decode w).mnemonic

/-- Decoding an encoded step kind gives it back, with every open bit at every value; so does the host's table word. -/
def Obligations.DecodeInvertsEncode : Prop :=
  ∀ i : Instr, i.wellFormed = true → decode (encode i) = i ∧ decodeTableWord 8 (encode i).toNat = some i

/-- Encoding a decoded word gives the word back: no bit of SEL7 is dropped. Numbers beyond seven bits are refused (the model's
choice, log 13). -/
def Obligations.EncodeInvertsDecode : Prop :=
  (∀ w : Sel7, encode (decode w) = w) ∧
  ∀ nbits w : Nat, w < 2 ^ nbits →
    decodeTableWord nbits w = if w < 128 then some (decode (BitVec.ofNat 7 w)) else none

/-- A step is the selected step kind's meaning, and then the edge ends: the host's next input word is due (log 1, log 3). -/
def Obligations.StepRunsTheSelectedStep : Prop :=
  ∀ (s : State) (i : Instr), i.wellFormed = true → decode (sel7 s) = i →
    step s = match exec i s with
      | .next t => .next { t with inputs := t.inputs.tail, edgeNo := t.edgeNo + 1 }
      | .fault r => .fault r
      | .refused r => .refused r

/-- withFetchWord makes the next edge form the given word, and changes nothing that the word does not hold but the input word
it drives (the model's choice, log 1). -/
def Obligations.DrivenSelectorWordIsFormed : Prop :=
  ∀ (s : State) (nbits w : Nat), 7 ≤ nbits → w < 128 →
    let t := s.withFetchWord nbits w
    sel7 t = BitVec.ofNat 7 w ∧ decodeTableWord nbits w = some (decode (sel7 t)) ∧
    t.deltaR = s.deltaR ∧ t.ambR = s.ambR ∧ t.btnR = s.btnR ∧ t.swtR = s.swtR ∧ t.updR = s.updR ∧
    t.inputs.tail = s.inputs.tail ∧ t.edgeNo = s.edgeNo

/-- R92: at every edge exactly one step kind is taken, RESET before IDLE before PRIME before TR. -/
def Obligations.StepPriority : Prop :=
  (∀ s : State, s.input.rst = true → ∃ x, decode (sel7 s) = .reset x) ∧
  (∀ s : State, s.input.rst = false → s.input.tick = false → ∃ x, decode (sel7 s) = .idle x) ∧
  (∀ s : State, TickEdge s → s.prevValid = false → ∃ x, decode (sel7 s) = .prime x) ∧
  (∀ s : State, TickEdge s → s.prevValid = true →
    decode (sel7 s) = transitionStep s.prevQ ((samplePins s).extractLsb' 0 2))

/-- The three consequences of R103 (which the spec marks as derived): a tick on a reset edge is discarded, with its sample; a first
tick reports no ambiguity whatever it samples; `amb` never comes with a nonzero delta. -/
def Obligations.SimultaneousEvents : Prop :=
  (∀ (s : State) (e : EdgeInput) (rest : List EdgeInput) (b : Bool) (p : PinSample) (c : BitVec 4),
    s.inputs = e :: rest → e.rst = true → step s = step { s with inputs := ⟨true, b, p, c⟩ :: rest }) ∧
  (∀ s : State, TickEdge s → s.prevValid = false → ∃ t, step s = .next t ∧ t.ambR = false ∧ t.deltaR = 0b00#2) ∧
  (∀ s t : State, TickEdge s → step s = .next t → t.ambR = true → t.deltaR = 0b00#2)

/-! The steps, each with the whole state it leaves. -/

/-- R89: RESET writes all seven registers, whatever `tick`, `pins` and the state; the next tick edge is a PRIME. -/
def Obligations.ResetStep : Prop :=
  (∀ (x : BitVec 6) (s : State), exec (.reset x) s = .next { s with
    prevQ := 0b00#2, prevValid := false, deltaR := 0b00#2, ambR := false, btnR := false, swtR := false, updR := false }) ∧
  (∀ s : State, s.input.rst = true → (∃ x, decode (sel7 s) = .reset x) ∧
    ∃ t, step s = .next t ∧ RegistersReset t ∧ (TickEdge t → ∃ y, decode (sel7 t) = .prime y))

/-- R90: IDLE clears `delta_r`, `amb_r` and `upd_r` and keeps every other register. -/
def Obligations.IdleStep : Prop :=
  (∀ (x : BitVec 5) (s : State), exec (.idle x) s = .next { s with deltaR := 0b00#2, ambR := false, updR := false }) ∧
  (∀ s : State, s.input.rst = false → s.input.tick = false → ∃ x, decode (sel7 s) = .idle x)

/-- R87: PRIME stores the sampled state, whatever it is, and reports no motion and no ambiguity. -/
def Obligations.PrimeStep : Prop :=
  (∀ (x : BitVec 4) (s : State), exec (.prime x) s = .next { s with
    prevQ := (samplePins s).extractLsb' 0 2, prevValid := true, deltaR := 0b00#2, ambR := false,
    btnR := (samplePins s).getLsbD 2, swtR := (samplePins s).getLsbD 3, updR := true }) ∧
  (∀ s : State, TickEdge s → s.prevValid = false → ∃ x, decode (sel7 s) = .prime x)

/-- R62, R67, R72, R77: the four HOLD entries report NoChange. -/
def Obligations.HoldEntries : Prop :=
  EntryRule .tr0000 0b00#2 0b00#2 0b00#2 false ∧ EntryRule .tr0101 0b01#2 0b01#2 0b00#2 false ∧
  EntryRule .tr1010 0b10#2 0b10#2 0b00#2 false ∧ EntryRule .tr1111 0b11#2 0b11#2 0b00#2 false

/-- R63, R69, R70, R76: the four CW entries report Clockwise. -/
def Obligations.ClockwiseEntries : Prop :=
  EntryRule .tr0001 0b00#2 0b01#2 0b01#2 false ∧ EntryRule .tr0111 0b01#2 0b11#2 0b01#2 false ∧
  EntryRule .tr1000 0b10#2 0b00#2 0b01#2 false ∧ EntryRule .tr1110 0b11#2 0b10#2 0b01#2 false

/-- R64, R66, R73, R75: the four CCW entries report CounterClockwise. -/
def Obligations.CounterClockwiseEntries : Prop :=
  EntryRule .tr0010 0b00#2 0b10#2 0b11#2 false ∧ EntryRule .tr0100 0b01#2 0b00#2 0b11#2 false ∧
  EntryRule .tr1011 0b10#2 0b11#2 0b11#2 false ∧ EntryRule .tr1101 0b11#2 0b01#2 0b11#2 false

/-- R65, R68, R71, R74: the four DIAG entries report NoChange with the flag, and the sampled state is still stored. -/
def Obligations.DiagonalEntries : Prop :=
  EntryRule .tr0011 0b00#2 0b11#2 0b00#2 true ∧ EntryRule .tr0110 0b01#2 0b10#2 0b00#2 true ∧
  EntryRule .tr1001 0b10#2 0b01#2 0b00#2 true ∧ EntryRule .tr1100 0b11#2 0b00#2 0b00#2 true

/-- R88: every tick after the first looks up the pair of the pre-edge `prev_q` and the sampled state, and stores the latter. -/
def Obligations.TransitionTick : Prop :=
  ∀ s : State, TickEdge s → s.prevValid = true →
    let cc : QState := (samplePins s).extractLsb' 0 2
    decode (sel7 s) = transitionStep s.prevQ cc ∧
    exec (transitionStep s.prevQ cc) s = .next { s with
      prevQ := cc, prevValid := true, deltaR := (lut (s.prevQ ++ cc)).delta, ambR := (lut (s.prevQ ++ cc)).amb,
      btnR := (samplePins s).getLsbD 2, swtR := (samplePins s).getLsbD 3, updR := true }

/-- What steps leave unchanged. IDLE keeps `prev_q`, `prev_valid`, `btn_r` and `swt_r` (R90). No step kind's exec touches the host's
listed inputs (`inputs`, the model's choice, log 1) or the free-value counter (`edgeNo`, the model's choice, log 3): neither is state
of the block, and no rule of the spec states this clause. -/
def Obligations.StepFrames : Prop :=
  (∀ (i : Instr) (s t : State), exec i s = .next t → t.inputs = s.inputs ∧ t.edgeNo = s.edgeNo) ∧
  (∀ (x : BitVec 5) (s t : State), exec (.idle x) s = .next t →
    t.prevQ = s.prevQ ∧ t.prevValid = s.prevValid ∧ t.btnR = s.btnR ∧ t.swtR = s.swtR)

/-- R98: no step kind in any state, and no edge from any state, faults or is refused. -/
def Obligations.NoStepStops : Prop :=
  (∀ (i : Instr) (s : State), ∃ t, exec i s = .next t) ∧ (∀ s : State, ∃ t, step s = .next t)

/-! The registers, edge by edge. -/

/-- R15: `prev_valid` is 0 at reset, set at every tick, cleared by a reset alone, read as bit 4 of SEL7, and no output. -/
def Obligations.PrevValidRegister : Prop :=
  State.reset.prevValid = false ∧
  (∀ s t : State, step s = .next t → t.prevValid = (!s.input.rst && (s.input.tick || s.prevValid))) ∧
  (∀ s : State, (sel7 s).getLsbD 4 = s.prevValid) ∧
  (∀ (s : State) (v : Bool), { s with prevValid := v }.outputs = s.outputs)

/-- R14 in part: `prev_q` takes the sampled state at every tick, 0b00 at a reset and holds otherwise; it is no output; and a tick
with `prev_valid` = 0 does not read it. -/
def Obligations.PrevQRegister : Prop :=
  (∀ s t : State, step s = .next t →
    t.prevQ = if s.input.rst then 0b00#2 else if s.input.tick then (samplePins s).extractLsb' 0 2 else s.prevQ) ∧
  (∀ (s : State) (q : QState), { s with prevQ := q }.outputs = s.outputs) ∧
  (∀ (s : State) (q : QState), TickEdge s → s.prevValid = false → step { s with prevQ := q } = step s)

/-- R17: `delta_r` is the tick's code after a tick edge, 0b00 after any other edge, 0b00 at reset, and never 0b10. -/
def Obligations.DeltaRegister : Prop :=
  State.reset.deltaR = 0b00#2 ∧
  ∀ s t : State, step s = .next t →
    (TickEdge s → s.prevValid = false → t.deltaR = RotationDelta.noChange.code) ∧
    (TickEdge s → s.prevValid = true →
      t.deltaR = (classify s.prevQ ((samplePins s).extractLsb' 0 2)).rotation.code) ∧
    (¬ TickEdge s → t.deltaR = 0b00#2) ∧
    (t.deltaR = 0b00#2 ∨ t.deltaR = 0b01#2 ∨ t.deltaR = 0b11#2)

/-- R18: `amb_r` is 1 after a diagonal TR tick, 0 after every other edge, and 0 at reset. -/
def Obligations.AmbRegister : Prop :=
  State.reset.ambR = false ∧
  ∀ s t : State, step s = .next t →
    (t.ambR = true ↔ TickEdge s ∧ s.prevValid = true ∧ s.prevQ ^^^ (samplePins s).extractLsb' 0 2 = 0b11#2)

/-- R19, R20: `btn_r` and `swt_r` take bits 2 and 3 of every tick's sample, hold through other edges without reset, and are 0
after a reset. -/
def Obligations.LevelRegisters : Prop :=
  State.reset.btnR = false ∧ State.reset.swtR = false ∧
  ∀ s t : State, step s = .next t →
    t.btnR = (if s.input.rst then false else if s.input.tick then (samplePins s).getLsbD 2 else s.btnR) ∧
    t.swtR = (if s.input.rst then false else if s.input.tick then (samplePins s).getLsbD 3 else s.swtR)

/-- R21: `upd_r` is 1 exactly after an edge with `rst` = 0 and `tick` = 1, and 0 at reset; and where the other four outputs cannot
tell a NoChange tick from a cycle without a tick, `upd` does. -/
def Obligations.UpdRegister : Prop :=
  State.reset.updR = false ∧ (∀ s t : State, step s = .next t → (t.updR = true ↔ TickEdge s)) ∧
  ∃ s u t v : State, TickEdge s ∧ ¬ TickEdge u ∧ step s = .next t ∧ step u = .next v ∧
    t.outputs.ofTick = v.outputs.ofTick ∧ t.outputs.upd ≠ v.outputs.upd

/-! The sample. -/

/-- R55, R119 in part: a line is sampled as it is driven, and a line that changes at the edge is a free draw, bit by bit (its form:
log 4). -/
def Obligations.SampleIsDrivenOrDrawn : Prop :=
  ∀ s : State,
    (∀ i < 4, (samplePins s).getLsbD i =
      if s.input.changing.getLsbD i then (Config.changingDraw s.edgeNo).getLsbD i else s.input.pins.getLsbD i) ∧
    (s.input.changing = 0b0000#4 → samplePins s = s.input.pins)

/-- R57, R58: the two bit tests read bits 2 and 3 and nothing else; the rules' examples. -/
def Obligations.BitTests : Prop :=
  (∀ p : PinSample, (buttonPressed p = true ↔ p.extractLsb' 2 1 = 1#1) ∧ (switchOn p = true ↔ p.extractLsb' 3 1 = 1#1)) ∧
  (∀ p q : PinSample, p &&& 0b0100#4 = q &&& 0b0100#4 → buttonPressed p = buttonPressed q) ∧
  (∀ p q : PinSample, p &&& 0b1000#4 = q &&& 0b1000#4 → switchOn p = switchOn q) ∧
  buttonPressed 0b0100#4 = true ∧ buttonPressed 0b1011#4 = false ∧ switchOn 0b1000#4 = true ∧ switchOn 0b0111#4 = false

/-- R60 (which the spec marks as derived): within a sample, bits 3:2 change neither the step selected nor delta nor amb, and bits 1:0 change neither bit test. -/
def Obligations.FieldIndependence : Prop :=
  (∀ s t s' t' : State, s.prevValid = t.prevValid → s.prevQ = t.prevQ → s.input.rst = t.input.rst →
    s.input.tick = t.input.tick → (samplePins s).extractLsb' 0 2 = (samplePins t).extractLsb' 0 2 →
    step s = .next s' → step t = .next t' →
    decode (sel7 s) = decode (sel7 t) ∧ s'.deltaR = t'.deltaR ∧ s'.ambR = t'.ambR) ∧
  (∀ p q : PinSample, p.extractLsb' 2 2 = q.extractLsb' 2 2 → buttonPressed p = buttonPressed q ∧ switchOn p = switchOn q)

/-! The table. -/

/-- R43, R44: the clockwise cycle (A rises while B = 0, B rises while A = 1, A falls while B = 1, B falls while A = 0), its inverse,
consecutive states one bit apart, and the two diagonal pairs. -/
def Obligations.ClockwiseCycle : Prop :=
  nextCw 0b00#2 = 0b01#2 ∧ nextCw 0b01#2 = 0b11#2 ∧ nextCw 0b11#2 = 0b10#2 ∧ nextCw 0b10#2 = 0b00#2 ∧
  nextCcw 0b00#2 = 0b10#2 ∧ nextCcw 0b01#2 = 0b00#2 ∧ nextCcw 0b11#2 = 0b01#2 ∧ nextCcw 0b10#2 = 0b11#2 ∧
  (∀ q, nextCcw (nextCw q) = q ∧ nextCw (nextCcw q) = q) ∧
  (∀ q, q ^^^ nextCw q = 0b01#2 ∨ q ^^^ nextCw q = 0b10#2) ∧
  (∀ p q : QState, p ^^^ q = 0b11#2 ↔
    (p = 0b00#2 ∧ q = 0b11#2) ∨ (p = 0b11#2 ∧ q = 0b00#2) ∨ (p = 0b01#2 ∧ q = 0b10#2) ∨ (p = 0b10#2 ∧ q = 0b01#2))

/-- R46: every pair falls in exactly one class, by the rule's conditions, and the classes have the rule's indices (the index lists
are marked as derived in the spec). -/
def Obligations.TransitionClasses : Prop :=
  (∀ p c : QState,
    (classify p c = .hold ↔ c = p) ∧ (classify p c = .cw ↔ c = nextCw p) ∧ (classify p c = .ccw ↔ c = nextCcw p) ∧
    (classify p c = .diag ↔ c = p ^^^ 0b11#2)) ∧
  (∀ p c : QState,
    (classify p c = .hold ↔ (p ++ c).toNat ∈ [0, 5, 10, 15]) ∧ (classify p c = .cw ↔ (p ++ c).toNat ∈ [1, 7, 8, 14]) ∧
    (classify p c = .ccw ↔ (p ++ c).toNat ∈ [2, 4, 11, 13]) ∧ (classify p c = .diag ↔ (p ++ c).toNat ∈ [3, 6, 9, 12]))

/-- R47, and R48 with its signed reading (general knowledge, 93 G1): the values and codes of RotationDelta, the reserved code, the signed reading, and that adding the extended code to a
counter of any width adds the value. -/
def Obligations.DeltaPortCode : Prop :=
  RotationDelta.clockwise.value = 1 ∧ RotationDelta.noChange.value = 0 ∧ RotationDelta.counterClockwise.value = -1 ∧
  RotationDelta.clockwise.code = 0b01#2 ∧ RotationDelta.noChange.code = 0b00#2 ∧
  RotationDelta.counterClockwise.code = 0b11#2 ∧
  (∀ c : DeltaCode, RotationDelta.ofCode c = none ↔ c = 0b10#2) ∧
  (∀ d : RotationDelta, RotationDelta.ofCode d.code = some d ∧ sext d.code = d.value) ∧
  (∀ (n : Nat) (position : BitVec n) (d : RotationDelta),
    position + d.code.signExtend n = position + BitVec.ofInt n d.value)

/-- R83: for each of the 16 pairs, `decode` gives exactly one RotationDelta, the one of the pair's class, with the flag set for
the four diagonal pairs only. -/
def Obligations.LookupGivesOneRotation : Prop :=
  ∀ cur prev : QState,
    (∃! d : RotationDelta, (decodeTransition cur prev).delta = d.code) ∧
    (decodeTransition cur prev).delta = (classify prev cur).rotation.code ∧
    ((decodeTransition cur prev).amb = true ↔ prev ^^^ cur = 0b11#2)

/-- R78 (which the spec marks as derived): of the 16 entries exactly 4 are HOLD, 4 CW, 4 CCW and 4 DIAG, with these results; no flag with a nonzero delta. -/
def Obligations.TablePartition : Prop :=
  let pairs : List (QState × QState) := (List.range 16).map fun k => (BitVec.ofNat 2 (k / 4), BitVec.ofNat 2 k)
  pairs.countP (fun x => classify x.1 x.2 == .hold && lut (x.1 ++ x.2) == ⟨0b00#2, false⟩) = 4 ∧
  pairs.countP (fun x => classify x.1 x.2 == .cw && lut (x.1 ++ x.2) == ⟨0b01#2, false⟩) = 4 ∧
  pairs.countP (fun x => classify x.1 x.2 == .ccw && lut (x.1 ++ x.2) == ⟨0b11#2, false⟩) = 4 ∧
  pairs.countP (fun x => classify x.1 x.2 == .diag && lut (x.1 ++ x.2) == ⟨0b00#2, true⟩) = 4 ∧
  (∀ idx : LutIndex, (lut idx).amb = true → (lut idx).delta = 0b00#2)

/-- R79 (which the spec marks as derived): reversing a transition reverses its delta and keeps its flag. -/
def Obligations.TableAntisymmetry : Prop :=
  ∀ p c : QState, sext (lut (p ++ c)).delta = - sext (lut (c ++ p)).delta ∧ (lut (p ++ c)).amb = (lut (c ++ p)).amb

/-- R80 (which the spec marks as derived): the closed form by cycle position. -/
def Obligations.TableByCyclePosition : Prop :=
  phi 0b00#2 = 0#2 ∧ phi 0b01#2 = 1#2 ∧ phi 0b11#2 = 2#2 ∧ phi 0b10#2 = 3#2 ∧
  ∀ prev cur : QState,
    (phi cur - phi prev = 0#2 → lut (prev ++ cur) = ⟨0b00#2, false⟩) ∧
    (phi cur - phi prev = 1#2 → lut (prev ++ cur) = ⟨0b01#2, false⟩) ∧
    (phi cur - phi prev = 2#2 → lut (prev ++ cur) = ⟨0b00#2, true⟩) ∧
    (phi cur - phi prev = 3#2 → lut (prev ++ cur) = ⟨0b11#2, false⟩) ∧
    phiForm prev cur = lut (prev ++ cur)

/-- R81 (which the spec marks as derived): the closed form by bits. -/
def Obligations.TableByBits : Prop :=
  ∀ prev cur : QState,
    (prev ^^^ cur = 0b00#2 → lut (prev ++ cur) = ⟨0b00#2, false⟩) ∧
    (prev ^^^ cur = 0b11#2 → lut (prev ++ cur) = ⟨0b00#2, true⟩) ∧
    (prev ^^^ cur = 0b01#2 ∨ prev ^^^ cur = 0b10#2 →
      lut (prev ++ cur) = ⟨if prev.getLsbD 0 = cur.getLsbD 1 then 0b01#2 else 0b11#2, false⟩) ∧
    bitForm prev cur = lut (prev ++ cur)

/-- R84: a diagonal entry gives delta 0 and the flag, and the flag is set for the four diagonal entries only. -/
def Obligations.DiagonalNeverCounts : Prop :=
  (∀ idx : LutIndex, idx.toNat ∈ [3, 6, 9, 12] → (lut idx).delta = 0b00#2) ∧
  (∀ idx : LutIndex, (lut idx).amb = true ↔ idx.toNat ∈ [3, 6, 9, 12])

/-- R118 in part (which the spec marks as derived): a bounce of one channel, sampled as changed and then as restored, gives +1 then -1 or -1 then +1. -/
def Obligations.BounceCancels : Prop :=
  ∀ q r : QState, q ^^^ r = 0b01#2 ∨ q ^^^ r = 0b10#2 →
    sext (lut (q ++ r)).delta + sext (lut (r ++ q)).delta = 0 ∧
    (sext (lut (q ++ r)).delta = 1 ∨ sext (lut (q ++ r)).delta = -1) ∧
    (lut (q ++ r)).amb = false ∧ (lut (r ++ q)).amb = false

/-! The tick level. -/

/-- R86: the step T, as the rule's pseudocode gives it. -/
def Obligations.TickStepIsT : Prop :=
  ∀ (pv : Bool) (pq : QState) (p : PinSample),
    let cq : QState := p.extractLsb' 0 2
    let r : LookupResult := if pv then lut (pq ++ cq) else ⟨0b00#2, false⟩
    tickStep ⟨pv, pq⟩ p = (⟨true, cq⟩, ⟨r.delta, r.amb, p.getLsbD 2, p.getLsbD 3⟩)

/-- R91: a tick edge takes T on the sample: its next state goes to `prev_valid` and `prev_q`, its outputs to the output
registers, and `upd_r` is 1. -/
def Obligations.TickEdgeTakesT : Prop :=
  ∀ s : State, TickEdge s → ∃ t, step s = .next t ∧
    (t.tickState, t.tickOutput) = tickStep s.tickState (samplePins s) ∧ t.updR = true

/-- R7 (with R90, R91, R94): the clock level refines the tick level. Over any number of edges from any state, the outputs in the
cycles with `upd` = 1 are those of T over the tick-level events, and the registers end in T's state. Idle edges and their number
make no difference. -/
def Obligations.ClockLevelRefinesTickLevel : Prop :=
  ∀ (k : Nat) (s : State), ∃ t, runEdges k s = .next t ∧
    t.tickState = tickFinal s.tickState (eventsOf k s) ∧
    ((outputsOf k s).filter (·.upd)).map Outputs.ofTick = tickOutputs s.tickState (eventsOf k s)

/-- R9, R94, R113 (the host's schedule: log 11): for every legal choice of the two periods, booting and then ticking through a list of samples shows the outputs
of T on those samples from the reset state: no output depends on the spacing of ticks. -/
def Obligations.TickOutputsIndependentOfPeriods : Prop :=
  ∀ (tm : Config.Timing) (samples : List PinSample) (s : State), tm.Legal →
    s.inputs = bootSchedule tm.edgesPerTick samples →
    ((outputsOf s.inputs.length s).filter (·.upd)).map Outputs.ofTick = tickRun ⟨false, 0b00#2⟩ samples

/-- R94 in part: `tick` held at 1 over k consecutive edges is k ticks, each with a fresh sample. -/
def Obligations.HeldTickIsRepeatedTicks : Prop :=
  ∀ (es rest : List EdgeInput) (s : State), s.inputs = es ++ rest → (∀ e ∈ es, e.rst = false ∧ e.tick = true) →
    (outputsOf es.length s).map Outputs.ofTick =
      tickRun s.tickState (es.mapIdx fun j e => e.sample (s.edgeNo + j)) ∧
    ∀ o ∈ outputsOf es.length s, o.upd = true

/-- R16 (which the spec marks as derived): holding the whole previous 4-bit sample gives the same outputs on every sequence of samples. -/
def Obligations.WholePreviousSampleIsEquivalent : Prop :=
  ∀ (v : Bool) (prev : PinSample) (samples : List PinSample),
    wideTickRun ⟨v, prev⟩ samples = tickRun ⟨v, curQ prev⟩ samples

/-! Runs. -/

/-- R97 (which the spec marks as derived): over any run, the sum of `sext(delta)` over every cycle is the sum of the RotationDeltas of the TR ticks, and adding only
where `upd` = 1 gives the same count. (Stated of every start state, not only of runs from a RESET.) -/
def Obligations.AccumulationLaw : Prop :=
  ∀ (k : Nat) (s : State),
    countEveryCycle (outputsOf k s) = ((stepsOf k s).map stepMotion).sum ∧
    countWhenUpd (outputsOf k s) = ((stepsOf k s).map stepMotion).sum

/-- R101 in part: the number of cycles with `amb` = 1 is the number of diagonal TR ticks. -/
def Obligations.AmbCyclesAreDiagonalTicks : Prop :=
  ∀ (k : Nat) (s : State), countAmb (outputsOf k s) = (stepsOf k s).countP isDiagonal

/-- R115, R116, R117 (which the spec marks as derived; moves: log 15): what a TR tick reports for a net move of m steps, from any start state; the report is the move exactly for
m in {-1, 0, +1}; three steps alias to one step the other way; four are lost. -/
def Obligations.LargerMoves : Prop :=
  ∀ (s : State) (m : Int), TickEdge s → s.prevValid = true → (samplePins s).extractLsb' 0 2 = moveSteps s.prevQ m →
    ∃ t, step s = .next t ∧
      (m % 4 = 0 → t.deltaR = 0b00#2 ∧ t.ambR = false) ∧ (m % 4 = 1 → t.deltaR = 0b01#2 ∧ t.ambR = false) ∧
      (m % 4 = 2 → t.deltaR = 0b00#2 ∧ t.ambR = true) ∧ (m % 4 = 3 → t.deltaR = 0b11#2 ∧ t.ambR = false) ∧
      ((sext t.deltaR = m ∧ t.ambR = false) ↔ m = -1 ∨ m = 0 ∨ m = 1) ∧
      (m = 3 → sext t.deltaR = -1 ∧ t.ambR = false) ∧ (m = -3 → sext t.deltaR = 1 ∧ t.ambR = false) ∧
      (m = 4 ∨ m = -4 → sext t.deltaR = 0 ∧ t.ambR = false)

/-- R97, R113, R114: booted and ticked at any spacing under the sampling-rate premise, the consumer's count is the encoder's net
motion since the first tick (its position: log 15), and no ambiguity is reported, whatever button and switch do. -/
def Obligations.CountsCorrectUnderPremise : Prop :=
  ∀ (s : State) (n : Nat) (start : Int) (later : List Int) (samples : List PinSample),
    SamplingPremise (start :: later) → 1 ≤ n →
    List.Forall₂ (fun p pos => curQ p = encoderState pos) samples (start :: later) →
    s.inputs = bootSchedule n samples →
    countEveryCycle (outputsOf s.inputs.length s) = later.getLastD start - start ∧
    countAmb (outputsOf s.inputs.length s) = 0

/-- R99: a diagonal TR tick completes with NoChange, the flag and the sampled state stored, and the next tick proceeds normally. -/
def Obligations.DegradedInputCompletes : Prop :=
  ∀ s : State, TickEdge s → s.prevValid = true → s.prevQ ^^^ (samplePins s).extractLsb' 0 2 = 0b11#2 →
    ∃ t, step s = .next t ∧ t.deltaR = 0b00#2 ∧ t.ambR = true ∧ t.prevQ = (samplePins s).extractLsb' 0 2 ∧
      t.prevValid = true ∧
      (TickEdge t → decode (sel7 t) = transitionStep ((samplePins s).extractLsb' 0 2) ((samplePins t).extractLsb' 0 2) ∧
        ∃ u, step t = .next u)

/-- R111: one or more reset edges leave every register at its reset value, and after any number of idle edges the first tick is a
PRIME. -/
def Obligations.ResetSequence : Prop :=
  RegistersReset State.reset ∧
  ∀ (s : State) (resets idles rest : List EdgeInput) (e : EdgeInput),
    resets ≠ [] → (∀ r ∈ resets, r.rst = true) → (∀ i ∈ idles, i.rst = false ∧ i.tick = false) →
    e.rst = false → e.tick = true → s.inputs = resets ++ (idles ++ e :: rest) →
    (∃ t, runEdges resets.length s = .next t ∧ RegistersReset t ∧ t.inputs = idles ++ e :: rest) ∧
    (∃ t, runEdges (resets.length + idles.length) s = .next t ∧ RegistersReset t ∧ ∃ x, decode (sel7 t) = .prime x)

/-- R109 in part: between ticks the block takes IDLE steps, which keep `prev_q`, `prev_valid`, `btn_r` and `swt_r`. -/
def Obligations.IdleEdgesHold : Prop :=
  ∀ (s : State) (idles rest : List EdgeInput), idles ≠ [] → (∀ i ∈ idles, i.rst = false ∧ i.tick = false) →
    s.inputs = idles ++ rest →
    (∀ i ∈ stepsOf idles.length s, ∃ x, i = .idle x) ∧
    runEdges idles.length s = .next { s with
      deltaR := 0b00#2, ambR := false, updR := false, inputs := rest, edgeNo := s.edgeNo + idles.length }

/-! Invariants and what cannot matter. -/

/-- The invariant holds at reset. -/
def Obligations.ResetMeetsInvariant : Prop := StateInv State.reset

/-- Every edge keeps the invariant (R51, R84, R90, R111). -/
def Obligations.EveryEdgeKeepsInvariant : Prop := ∀ s t : State, StateInv s → step s = .next t → StateInv t

/-- R51 and R84 in part, from any state at all, reached or not: no edge writes the reserved code, and none raises `amb` with a
nonzero delta. -/
def Obligations.ReservedCodeNeverWritten : Prop :=
  ∀ s t : State, step s = .next t → t.deltaR ≠ 0b10#2 ∧ (t.ambR = true → t.deltaR = 0b00#2)

/-- R112, R121 in part (the spec marks R121 as derived): a reset edge erases the past. Two states with the same inputs ahead, the power-up state among them, run alike
from a reset edge on. -/
def Obligations.ResetErasesThePast : Prop :=
  ∀ (k : Nat) (s t : State), s.inputs = t.inputs → s.edgeNo = t.edgeNo → s.input.rst = true →
    runEdges (k + 1) s = runEdges (k + 1) t ∧ outputsOf (k + 1) s = outputsOf (k + 1) t

/-- R14, 93 I3: while `prev_valid` = 0, the value of `prev_q` makes no difference to any output of any run. -/
def Obligations.StalePrevQNeverSeen : Prop :=
  ∀ (k : Nat) (s : State) (q : QState), s.prevValid = false → outputsOf k { s with prevQ := q } = outputsOf k s

/-- R50, R82 and R60 (marked as derived): the button and switch lines make no difference to `delta`, `amb` and `upd` in any run. -/
def Obligations.LevelsNeverReachMotion : Prop :=
  ∀ (k : Nat) (s t : State), s.prevQ = t.prevQ → s.prevValid = t.prevValid → s.edgeNo = t.edgeNo →
    List.Forall₂ SameMotionInput s.inputs t.inputs →
    (outputsOf k s).map (fun o => (o.delta, o.amb, o.upd)) = (outputsOf k t).map (fun o => (o.delta, o.amb, o.upd))

/-- R40 and R60 (marked as derived): the lines A and B and the previous state make no difference to `btn`, `swt` and `upd` in any run. -/
def Obligations.MotionNeverReachesLevels : Prop :=
  ∀ (k : Nat) (s t : State), s.btnR = t.btnR → s.swtR = t.swtR → s.edgeNo = t.edgeNo →
    List.Forall₂ SameLevelInput s.inputs t.inputs →
    (outputsOf k s).map (fun o => (o.btn, o.swt, o.upd)) = (outputsOf k t).map (fun o => (o.btn, o.swt, o.upd))

/-! The tick script. -/

/-- R54: the 6-bit words of the statements, how the block completes SEL7 from them and its own registers, the rule's
example, and that `pins` is ignored on RESET and IDLE edges. -/
def Obligations.ScriptWords : Prop :=
  CoreStatement.reset.in6 = 0b100000#6 ∧ CoreStatement.idle.in6 = 0b000000#6 ∧
  (∀ p : PinSample, (CoreStatement.tick p).in6 = 0b0#1 ++ 0b1#1 ++ p) ∧
  (∀ (s : State) (c : CoreStatement) (prog : List Statement),
    sel7 (s.load (.core c :: prog)) =
      c.in6.extractLsb' 5 1 ++ c.in6.extractLsb' 4 1 ++ BitVec.ofBool s.prevValid ++ s.prevQ ++ c.in6.extractLsb' 0 2) ∧
  (∀ (s : State) (prog : List Statement), s.prevValid = false →
    ∃ x, decode (sel7 (s.load (.core (.tick 0b0001#4) :: prog))) = .prime x) ∧
  (∀ (s : State) (prog : List Statement), s.prevValid = true → s.prevQ = 0b00#2 →
    decode (sel7 (s.load (.core (.tick 0b0001#4) :: prog))) = .tr0001) ∧
  (∀ (s : State) (p : PinSample) (c : BitVec 4) (rest : List EdgeInput),
    step { s with inputs := ⟨true, false, p, c⟩ :: rest } =
      step { s with inputs := EdgeInput.ofIn6 CoreStatement.reset.in6 :: rest } ∧
    step { s with inputs := ⟨false, false, p, c⟩ :: rest } =
      step { s with inputs := EdgeInput.ofIn6 CoreStatement.idle.in6 :: rest })

/-- R53 in part: the pseudo-instructions expand to n statements, each statement is one edge, and a script runs straight through. -/
def Obligations.ScriptRunsStraightThrough : Prop :=
  (∀ n, (Statement.idleTimes n).expand = List.replicate n .idle) ∧
  (∀ n p, (Statement.repTick n p).expand = List.replicate n (.tick p)) ∧
  (∀ (s : State) (prog : List Statement),
    ∃ t, runEdges (prog.map fun st => st.expand.length).sum (s.load prog) = .next t ∧ t.inputs = [])
end

