-- ==== Sys2Proof/Laws/Decode.lean ====
section
/-! SUPPORT. What the decoder answers on a word put together from its fields, and what it does with a TR row. -/

namespace Sys2Proof

/-- The decoder on the fields of a selector word, in the order of the rows (R49). -/
theorem decode_fields (rst tick pv : Bool) (pq cq : QState) :
    decode (BitVec.ofBool rst ++ BitVec.ofBool tick ++ BitVec.ofBool pv ++ pq ++ cq) =
      if rst then .reset (BitVec.ofBool tick ++ BitVec.ofBool pv ++ pq ++ cq)
      else if !tick then .idle (BitVec.ofBool pv ++ pq ++ cq)
      else if !pv then .prime (pq ++ cq)
      else transitionStep pq cq := by
  revert rst tick pv pq cq; decide

/-- The TR row of a pair has the word `011ppcc`. -/
theorem encode_transitionStep (pq cq : QState) : encode (transitionStep pq cq) = 0b011#3 ++ pq ++ cq := by
  revert pq cq; decide

/-- The TR row of a pair takes the entry 4·pp + cc. -/
theorem entry_transitionStep (pq cq : QState) : (transitionStep pq cq).entry? = some (pq ++ cq) := by
  revert pq cq; decide

end Sys2Proof
end

