-- ==== Sys2Proof/Laws/Lookup.lean ====
section
/-! SUPPORT. Everything the table answers, by the relation of the two states. -/

namespace Sys2Proof.Machine

/-- The delta of an entry is that of its class. -/
theorem lut_delta (prev cur : QState) : (lut (lutIndex prev cur)).delta = (classify prev cur).rotation.code := by
  revert prev cur; decide

/-- The flag of an entry is set when both channels changed. -/
theorem lut_amb_iff (prev cur : QState) : (lut (lutIndex prev cur)).amb = true ↔ prev ^^^ cur = 0b11#2 := by
  revert prev cur; decide

/-- No entry holds the reserved code. -/
theorem lut_delta_legal (idx : LutIndex) :
    (lut idx).delta = 0b00#2 ∨ (lut idx).delta = 0b01#2 ∨ (lut idx).delta = 0b11#2 := by
  revert idx; decide

/-- A flagged entry reports no motion. -/
theorem lut_delta_of_amb (idx : LutIndex) (h : (lut idx).amb = true) : (lut idx).delta = 0b00#2 := by
  revert idx; decide

end Sys2Proof.Machine
end

