-- ==== Sys2Proof/Laws/State.lean ====
section
/-! SUPPORT. One lemma per field per update of State, so that no proof unfolds a record update. -/

namespace Sys2Proof.Machine.State

variable (s : State)

@[simp] theorem resetRegisters_prevQ : (s.resetRegisters).prevQ = 0b00#2 := rfl
@[simp] theorem resetRegisters_prevValid : (s.resetRegisters).prevValid = false := rfl
@[simp] theorem resetRegisters_deltaR : (s.resetRegisters).deltaR = 0b00#2 := rfl
@[simp] theorem resetRegisters_ambR : (s.resetRegisters).ambR = false := rfl
@[simp] theorem resetRegisters_btnR : (s.resetRegisters).btnR = false := rfl
@[simp] theorem resetRegisters_swtR : (s.resetRegisters).swtR = false := rfl
@[simp] theorem resetRegisters_updR : (s.resetRegisters).updR = false := rfl
@[simp] theorem resetRegisters_inputs : (s.resetRegisters).inputs = s.inputs := rfl
@[simp] theorem resetRegisters_edgeNo : (s.resetRegisters).edgeNo = s.edgeNo := rfl

@[simp] theorem clearPulses_prevQ : (s.clearPulses).prevQ = s.prevQ := rfl
@[simp] theorem clearPulses_prevValid : (s.clearPulses).prevValid = s.prevValid := rfl
@[simp] theorem clearPulses_deltaR : (s.clearPulses).deltaR = 0b00#2 := rfl
@[simp] theorem clearPulses_ambR : (s.clearPulses).ambR = false := rfl
@[simp] theorem clearPulses_btnR : (s.clearPulses).btnR = s.btnR := rfl
@[simp] theorem clearPulses_swtR : (s.clearPulses).swtR = s.swtR := rfl
@[simp] theorem clearPulses_updR : (s.clearPulses).updR = false := rfl
@[simp] theorem clearPulses_inputs : (s.clearPulses).inputs = s.inputs := rfl
@[simp] theorem clearPulses_edgeNo : (s.clearPulses).edgeNo = s.edgeNo := rfl

@[simp] theorem showResult_prevQ (r : LookupResult) : (s.showResult r).prevQ = s.prevQ := rfl
@[simp] theorem showResult_prevValid (r : LookupResult) : (s.showResult r).prevValid = s.prevValid := rfl
@[simp] theorem showResult_deltaR (r : LookupResult) : (s.showResult r).deltaR = r.delta := rfl
@[simp] theorem showResult_ambR (r : LookupResult) : (s.showResult r).ambR = r.amb := rfl
@[simp] theorem showResult_btnR (r : LookupResult) : (s.showResult r).btnR = s.btnR := rfl
@[simp] theorem showResult_swtR (r : LookupResult) : (s.showResult r).swtR = s.swtR := rfl
@[simp] theorem showResult_updR (r : LookupResult) : (s.showResult r).updR = true := rfl
@[simp] theorem showResult_inputs (r : LookupResult) : (s.showResult r).inputs = s.inputs := rfl
@[simp] theorem showResult_edgeNo (r : LookupResult) : (s.showResult r).edgeNo = s.edgeNo := rfl

@[simp] theorem latchLevels_prevQ (p : PinSample) : (s.latchLevels p).prevQ = s.prevQ := rfl
@[simp] theorem latchLevels_prevValid (p : PinSample) : (s.latchLevels p).prevValid = s.prevValid := rfl
@[simp] theorem latchLevels_deltaR (p : PinSample) : (s.latchLevels p).deltaR = s.deltaR := rfl
@[simp] theorem latchLevels_ambR (p : PinSample) : (s.latchLevels p).ambR = s.ambR := rfl
@[simp] theorem latchLevels_btnR (p : PinSample) : (s.latchLevels p).btnR = buttonPressed p := rfl
@[simp] theorem latchLevels_swtR (p : PinSample) : (s.latchLevels p).swtR = switchOn p := rfl
@[simp] theorem latchLevels_updR (p : PinSample) : (s.latchLevels p).updR = s.updR := rfl
@[simp] theorem latchLevels_inputs (p : PinSample) : (s.latchLevels p).inputs = s.inputs := rfl
@[simp] theorem latchLevels_edgeNo (p : PinSample) : (s.latchLevels p).edgeNo = s.edgeNo := rfl

@[simp] theorem storePrev_prevQ (q : QState) : (s.storePrev q).prevQ = q := rfl
@[simp] theorem storePrev_prevValid (q : QState) : (s.storePrev q).prevValid = true := rfl
@[simp] theorem storePrev_deltaR (q : QState) : (s.storePrev q).deltaR = s.deltaR := rfl
@[simp] theorem storePrev_ambR (q : QState) : (s.storePrev q).ambR = s.ambR := rfl
@[simp] theorem storePrev_btnR (q : QState) : (s.storePrev q).btnR = s.btnR := rfl
@[simp] theorem storePrev_swtR (q : QState) : (s.storePrev q).swtR = s.swtR := rfl
@[simp] theorem storePrev_updR (q : QState) : (s.storePrev q).updR = s.updR := rfl
@[simp] theorem storePrev_inputs (q : QState) : (s.storePrev q).inputs = s.inputs := rfl
@[simp] theorem storePrev_edgeNo (q : QState) : (s.storePrev q).edgeNo = s.edgeNo := rfl

@[simp] theorem takeTick_prevQ (r : LookupResult) : (s.takeTick r).prevQ = curQ (samplePins s) := rfl
@[simp] theorem takeTick_prevValid (r : LookupResult) : (s.takeTick r).prevValid = true := rfl
@[simp] theorem takeTick_deltaR (r : LookupResult) : (s.takeTick r).deltaR = r.delta := rfl
@[simp] theorem takeTick_ambR (r : LookupResult) : (s.takeTick r).ambR = r.amb := rfl
@[simp] theorem takeTick_btnR (r : LookupResult) : (s.takeTick r).btnR = buttonPressed (samplePins s) := rfl
@[simp] theorem takeTick_swtR (r : LookupResult) : (s.takeTick r).swtR = switchOn (samplePins s) := rfl
@[simp] theorem takeTick_updR (r : LookupResult) : (s.takeTick r).updR = true := rfl
@[simp] theorem takeTick_inputs (r : LookupResult) : (s.takeTick r).inputs = s.inputs := rfl
@[simp] theorem takeTick_edgeNo (r : LookupResult) : (s.takeTick r).edgeNo = s.edgeNo := rfl

@[simp] theorem endEdge_prevQ : (s.endEdge).prevQ = s.prevQ := rfl
@[simp] theorem endEdge_prevValid : (s.endEdge).prevValid = s.prevValid := rfl
@[simp] theorem endEdge_deltaR : (s.endEdge).deltaR = s.deltaR := rfl
@[simp] theorem endEdge_ambR : (s.endEdge).ambR = s.ambR := rfl
@[simp] theorem endEdge_btnR : (s.endEdge).btnR = s.btnR := rfl
@[simp] theorem endEdge_swtR : (s.endEdge).swtR = s.swtR := rfl
@[simp] theorem endEdge_updR : (s.endEdge).updR = s.updR := rfl
@[simp] theorem endEdge_inputs : (s.endEdge).inputs = s.inputs.tail := rfl
@[simp] theorem endEdge_edgeNo : (s.endEdge).edgeNo = s.edgeNo + 1 := rfl

@[simp] theorem load_prevQ (prog : List Statement) : (s.load prog).prevQ = s.prevQ := rfl
@[simp] theorem load_prevValid (prog : List Statement) : (s.load prog).prevValid = s.prevValid := rfl
@[simp] theorem load_deltaR (prog : List Statement) : (s.load prog).deltaR = s.deltaR := rfl
@[simp] theorem load_ambR (prog : List Statement) : (s.load prog).ambR = s.ambR := rfl
@[simp] theorem load_btnR (prog : List Statement) : (s.load prog).btnR = s.btnR := rfl
@[simp] theorem load_swtR (prog : List Statement) : (s.load prog).swtR = s.swtR := rfl
@[simp] theorem load_updR (prog : List Statement) : (s.load prog).updR = s.updR := rfl
@[simp] theorem load_inputs (prog : List Statement) : (s.load prog).inputs = scriptInputs prog := rfl
@[simp] theorem load_edgeNo (prog : List Statement) : (s.load prog).edgeNo = s.edgeNo := rfl

@[simp] theorem driveSelector_deltaR (w : Sel7) : (s.driveSelector w).deltaR = s.deltaR := rfl
@[simp] theorem driveSelector_ambR (w : Sel7) : (s.driveSelector w).ambR = s.ambR := rfl
@[simp] theorem driveSelector_btnR (w : Sel7) : (s.driveSelector w).btnR = s.btnR := rfl
@[simp] theorem driveSelector_swtR (w : Sel7) : (s.driveSelector w).swtR = s.swtR := rfl
@[simp] theorem driveSelector_updR (w : Sel7) : (s.driveSelector w).updR = s.updR := rfl
@[simp] theorem driveSelector_edgeNo (w : Sel7) : (s.driveSelector w).edgeNo = s.edgeNo := rfl
@[simp] theorem driveSelector_prevQ (w : Sel7) : (s.driveSelector w).prevQ = w.extractLsb' 2 2 := rfl
@[simp] theorem driveSelector_prevValid (w : Sel7) : (s.driveSelector w).prevValid = w.getLsbD 4 := rfl
@[simp] theorem driveSelector_inputs_tail (w : Sel7) : (s.driveSelector w).inputs.tail = s.inputs.tail := rfl
@[simp] theorem driveSelector_input_rst (w : Sel7) : (s.driveSelector w).input.rst = w.getLsbD 6 := rfl
@[simp] theorem driveSelector_input_tick (w : Sel7) : (s.driveSelector w).input.tick = w.getLsbD 5 := rfl

end Sys2Proof.Machine.State
end

