-- ==== Sys2Proof/Laws/Operands.lean ====
section
/-! SUPPORT. What the operand reads give: the ports, the sampled lines, the fields of the selector word. -/

namespace Sys2Proof.Machine

/-- The listed head is what the ports carry. -/
@[simp] theorem State.input_cons {s : State} {e : EdgeInput} {es : List EdgeInput} (h : s.inputs = e :: es) :
    s.input = e := by
  simp [State.input, h]

/-- A state's ports depend on nothing but its inputs and its edge number. -/
theorem State.input_congr {s t : State} (hi : s.inputs = t.inputs) (hn : s.edgeNo = t.edgeNo) : s.input = t.input := by
  simp [State.input, hi, hn]

/-- A sample depends on nothing but the inputs and the edge number. -/
theorem samplePins_congr {s t : State} (hi : s.inputs = t.inputs) (hn : s.edgeNo = t.edgeNo) :
    samplePins s = samplePins t := by
  simp [samplePins, State.input_congr hi hn, hn]

/-- The bits of four lines put together. -/
theorem fourLines_bits : ∀ a b c d : Bool,
    (BitVec.ofBool d ++ BitVec.ofBool c ++ BitVec.ofBool b ++ BitVec.ofBool a).getLsbD 0 = a ∧
    (BitVec.ofBool d ++ BitVec.ofBool c ++ BitVec.ofBool b ++ BitVec.ofBool a).getLsbD 1 = b ∧
    (BitVec.ofBool d ++ BitVec.ofBool c ++ BitVec.ofBool b ++ BitVec.ofBool a).getLsbD 2 = c ∧
    (BitVec.ofBool d ++ BitVec.ofBool c ++ BitVec.ofBool b ++ BitVec.ofBool a).getLsbD 3 = d := by
  decide

@[simp] theorem EdgeInput.sample_bit0 (e : EdgeInput) (n : Nat) : (e.sample n)[0] = e.line n 0 :=
  (fourLines_bits _ _ _ _).1

@[simp] theorem EdgeInput.sample_bit1 (e : EdgeInput) (n : Nat) : (e.sample n)[1] = e.line n 1 :=
  (fourLines_bits _ _ _ _).2.1

@[simp] theorem EdgeInput.sample_bit2 (e : EdgeInput) (n : Nat) : (e.sample n)[2] = e.line n 2 :=
  (fourLines_bits _ _ _ _).2.2.1

@[simp] theorem EdgeInput.sample_bit3 (e : EdgeInput) (n : Nat) : (e.sample n)[3] = e.line n 3 :=
  (fourLines_bits _ _ _ _).2.2.2

/-- Two samples with the same four bits are the same. -/
theorem pinSample_ext {p q : PinSample} (h0 : p.getLsbD 0 = q.getLsbD 0) (h1 : p.getLsbD 1 = q.getLsbD 1)
    (h2 : p.getLsbD 2 = q.getLsbD 2) (h3 : p.getLsbD 3 = q.getLsbD 3) : p = q := by
  revert p q; decide

/-- The quadrature state of a sample depends on its bits 0 and 1 alone. -/
theorem curQ_congr {p q : PinSample} (h0 : p.getLsbD 0 = q.getLsbD 0) (h1 : p.getLsbD 1 = q.getLsbD 1) :
    curQ p = curQ q := by
  revert p q; decide

/-- A line that does not change at the edge is sampled as driven. -/
theorem EdgeInput.line_stable {e : EdgeInput} (h : e.changing = 0b0000#4) (n i : Nat) :
    e.line n i = e.pins.getLsbD i := by
  simp [EdgeInput.line, h]

/-- Where A and B do not change at the edge, the sampled quadrature state is the driven one. -/
theorem EdgeInput.curQ_sample {e : EdgeInput} (h0 : e.changing.getLsbD 0 = false) (h1 : e.changing.getLsbD 1 = false)
    (n : Nat) : curQ (e.sample n) = curQ e.pins := by
  apply curQ_congr
  · show (e.sample n)[0] = _
    rw [sample_bit0, line, h0]; rfl
  · show (e.sample n)[1] = _
    rw [sample_bit1, line, h1]; rfl

/-- Stable pins are sampled as driven. -/
theorem EdgeInput.sample_stable {e : EdgeInput} (h : e.changing = 0b0000#4) (n : Nat) : e.sample n = e.pins := by
  apply pinSample_ext <;> simp [line_stable h]

/-- A new previous state and a new validity change neither ports nor sample. -/
theorem samplePins_storePrev (s : State) (q : QState) : samplePins (s.storePrev q) = samplePins s := rfl

/-- The selector word's bits are the ports' and the registers' (R49). -/
theorem sel7_fields (s : State) :
    (sel7 s).getLsbD 6 = s.input.rst ∧ (sel7 s).getLsbD 5 = s.input.tick ∧ (sel7 s).getLsbD 4 = s.prevValid ∧
      (sel7 s).extractLsb' 2 2 = s.prevQ ∧ (sel7 s).extractLsb' 0 2 = curQ (samplePins s) := by
  simp only [sel7]; generalize s.input.rst = a; generalize s.input.tick = b; generalize s.prevValid = c
  generalize s.prevQ = p; generalize curQ (samplePins s) = q; revert a b c p q; decide

end Sys2Proof.Machine
end

