-- ==== Sys2Proof/Laws/PerInstr.lean ====
section
/-!
SUPPORT. Statements about every step kind as syntax, one lemma per constructor. MatchesRow: the word a step kind encodes to
has the match bits of its own row of spec/opcode_table.json under that row's mask.
-/

namespace Sys2Proof.Laws.MatchesRow

/-- Its own row of the opcode table, found by its mnemonic, selects the encoded word. -/
def Statement (i : Instr) : Prop :=
  (opcodeTable.any fun r => r.mnemonic == i.mnemonic && r.selects (encode i)) = true

theorem reset (x : BitVec 6) : Statement (.reset x) := by
  revert x; unfold Statement; decide

theorem idle (x : BitVec 5) : Statement (.idle x) := by
  revert x; unfold Statement; decide

theorem prime (x : BitVec 4) : Statement (.prime x) := by
  revert x; unfold Statement; decide

theorem tr0000 : Statement .tr0000 := by unfold Statement; decide
theorem tr0001 : Statement .tr0001 := by unfold Statement; decide
theorem tr0010 : Statement .tr0010 := by unfold Statement; decide
theorem tr0011 : Statement .tr0011 := by unfold Statement; decide
theorem tr0100 : Statement .tr0100 := by unfold Statement; decide
theorem tr0101 : Statement .tr0101 := by unfold Statement; decide
theorem tr0110 : Statement .tr0110 := by unfold Statement; decide
theorem tr0111 : Statement .tr0111 := by unfold Statement; decide
theorem tr1000 : Statement .tr1000 := by unfold Statement; decide
theorem tr1001 : Statement .tr1001 := by unfold Statement; decide
theorem tr1010 : Statement .tr1010 := by unfold Statement; decide
theorem tr1011 : Statement .tr1011 := by unfold Statement; decide
theorem tr1100 : Statement .tr1100 := by unfold Statement; decide
theorem tr1101 : Statement .tr1101 := by unfold Statement; decide
theorem tr1110 : Statement .tr1110 := by unfold Statement; decide
theorem tr1111 : Statement .tr1111 := by unfold Statement; decide

end Sys2Proof.Laws.MatchesRow
end

