-- ==== Sys2Proof/Laws/Step.lean ====
section
/-! SUPPORT. Everything one edge can do, said once: `step_eq`, and its unfolding along a run. -/

namespace Sys2Proof.Machine

/-- A TR step of a pair takes the entry of that pair. -/
theorem exec_transitionStep (pq cq : QState) (s : State) :
    exec (transitionStep pq cq) s = .next (s.takeTick (lut (lutIndex pq cq))) := by
  have h : ∀ p c : QState, (p = 0b00#2 ∨ p = 0b01#2 ∨ p = 0b10#2 ∨ p = 0b11#2) ∧
      (c = 0b00#2 ∨ c = 0b01#2 ∨ c = 0b10#2 ∨ c = 0b11#2) := by decide
  obtain ⟨rfl | rfl | rfl | rfl, rfl | rfl | rfl | rfl⟩ := h pq cq <;> rfl

/-- The lookup result of a tick: none of the table before the first tick, the pair's entry after it. -/
def State.tickResult (s : State) : LookupResult :=
  if s.prevValid then lut (lutIndex s.prevQ (curQ (samplePins s))) else noMotion

/-- The registers after the coming edge. -/
def State.edgeRegisters (s : State) : State :=
  if s.input.rst then s.resetRegisters
  else if s.input.tick then s.takeTick s.tickResult
  else s.clearPulses

/-- The state after the coming edge. -/
def State.afterEdge (s : State) : State := s.edgeRegisters.endEdge

/-- The decoder's answer at the coming edge. -/
theorem decode_sel7 (s : State) :
    decode (sel7 s) =
      if s.input.rst then .reset (BitVec.ofBool s.input.tick ++ BitVec.ofBool s.prevValid ++ s.prevQ ++ curQ (samplePins s))
      else if !s.input.tick then .idle (BitVec.ofBool s.prevValid ++ s.prevQ ++ curQ (samplePins s))
      else if !s.prevValid then .prime (s.prevQ ++ curQ (samplePins s))
      else transitionStep s.prevQ (curQ (samplePins s)) :=
  decode_fields _ _ _ _ _

/-- One edge, whole: it always completes, and this is the state it leaves. -/
theorem step_eq (s : State) : step s = .next s.afterEdge := by
  unfold step
  rw [decode_sel7]
  cases hr : s.input.rst
  · cases ht : s.input.tick
    · simp [exec, execIdle, State.afterEdge, State.edgeRegisters, hr, ht]
    · cases hp : s.prevValid
      · simp [exec, execPrime, State.afterEdge, State.edgeRegisters, State.tickResult, hr, ht, hp]
      · simp [exec_transitionStep, State.afterEdge, State.edgeRegisters, State.tickResult, hr, ht, hp]
  · simp [exec, execReset, State.afterEdge, State.edgeRegisters, hr]

@[simp] theorem State.afterEdge_inputs (s : State) : s.afterEdge.inputs = s.inputs.tail := by
  unfold State.afterEdge State.edgeRegisters; split <;> [rfl; split <;> rfl]

@[simp] theorem State.afterEdge_edgeNo (s : State) : s.afterEdge.edgeNo = s.edgeNo + 1 := by
  unfold State.afterEdge State.edgeRegisters; split <;> [rfl; split <;> rfl]

theorem State.afterEdge_reset {s : State} (h : s.input.rst = true) : s.afterEdge = s.resetRegisters.endEdge := by
  simp [State.afterEdge, State.edgeRegisters, h]

theorem State.afterEdge_idle {s : State} (h : s.input.rst = false) (ht : s.input.tick = false) :
    s.afterEdge = s.clearPulses.endEdge := by
  simp [State.afterEdge, State.edgeRegisters, h, ht]

theorem State.afterEdge_tick {s : State} (h : s.input.rst = false) (ht : s.input.tick = true) :
    s.afterEdge = (s.takeTick s.tickResult).endEdge := by
  simp [State.afterEdge, State.edgeRegisters, h, ht]

/-- The three kinds of edge and the state each leaves. -/
theorem State.edge_cases (s : State) :
    (s.input.rst = true ∧ s.afterEdge = s.resetRegisters.endEdge) ∨
    (s.input.rst = false ∧ s.input.tick = false ∧ s.afterEdge = s.clearPulses.endEdge) ∨
    (s.input.rst = false ∧ s.input.tick = true ∧ s.afterEdge = (s.takeTick s.tickResult).endEdge) := by
  cases hr : s.input.rst with
  | true => exact .inl ⟨rfl, afterEdge_reset hr⟩
  | false =>
    cases ht : s.input.tick with
    | false => exact .inr (.inl ⟨rfl, rfl, afterEdge_idle hr ht⟩)
    | true => exact .inr (.inr ⟨rfl, rfl, afterEdge_tick hr ht⟩)

/-- The ports at the edges after the coming one do not depend on what the coming edge does to the registers. -/
theorem State.afterEdge_input_congr {s t : State} (hi : s.inputs = t.inputs) (hn : s.edgeNo = t.edgeNo) :
    s.afterEdge.input = t.afterEdge.input :=
  State.input_congr (by simp [hi]) (by simp [hn])

@[simp] theorem runEdges_succ (k : Nat) (s : State) : runEdges (k + 1) s = runEdges k s.afterEdge := by
  simp [runEdges, step_eq]

@[simp] theorem outputsOf_succ (k : Nat) (s : State) :
    outputsOf (k + 1) s = s.afterEdge.outputs :: outputsOf k s.afterEdge := by
  simp [outputsOf, step_eq]

@[simp] theorem stepsOf_succ (k : Nat) (s : State) : stepsOf (k + 1) s = decode (sel7 s) :: stepsOf k s.afterEdge := by
  simp [stepsOf, step_eq]

@[simp] theorem eventsOf_succ (k : Nat) (s : State) : eventsOf (k + 1) s = edgeEvent s ++ eventsOf k s.afterEdge := by
  simp [eventsOf, step_eq]

end Sys2Proof.Machine
end

