-- ==== Sys2Proof/Laws/Run.lean ====
section
/-! SUPPORT. Runs cut in two, and the encoder's position under single steps. -/

namespace Sys2Proof.Machine

/-- A run of `a + b` edges is a run of `a` and then one of `b`. -/
theorem runEdges_add (a b : Nat) (s t : State) (h : runEdges a s = .next t) : runEdges (a + b) s = runEdges b t := by
  induction a generalizing s with
  | zero => cases h; simp
  | succ a ih => rw [Nat.succ_add, runEdges_succ]; exact ih _ (by simpa using h)

/-- A run always completes, and uses up one input word an edge. -/
theorem runEdges_next (k : Nat) (s : State) : ∃ t, runEdges k s = .next t ∧ t.inputs = s.inputs.drop k := by
  induction k generalizing s with
  | zero => exact ⟨s, rfl, rfl⟩
  | succ k ih =>
    obtain ⟨t, h, h'⟩ := ih s.afterEdge
    exact ⟨t, by simpa using h, by rw [h']; simp⟩

/-- One clockwise step adds one to the position in the cycle. -/
theorem phi_nextCw (q : QState) : phi (nextCw q) = phi q + 1#2 := by
  revert q; decide

/-- One counter-clockwise step takes one off the position in the cycle. -/
theorem phi_nextCcw (q : QState) : phi (nextCcw q) = phi q - 1#2 := by
  revert q; decide

theorem phi_times_nextCw (n : Nat) (q : QState) : phi (times nextCw n q) = phi q + BitVec.ofNat 2 n := by
  induction n generalizing q with
  | zero => simp [times]
  | succ n ih =>
    rw [times, ih, phi_nextCw, BitVec.ofNat_add]
    generalize BitVec.ofNat 2 n = x; generalize phi q = y; revert x y; decide

theorem phi_times_nextCcw (n : Nat) (q : QState) : phi (times nextCcw n q) = phi q - BitVec.ofNat 2 n := by
  induction n generalizing q with
  | zero => simp [times]
  | succ n ih =>
    rw [times, ih, phi_nextCcw, BitVec.ofNat_add]
    generalize BitVec.ofNat 2 n = x; generalize phi q = y; revert x y; decide

@[simp] theorem countEveryCycle_cons (o : Outputs) (os : List Outputs) :
    countEveryCycle (o :: os) = sext o.delta + countEveryCycle os := by
  simp [countEveryCycle]

@[simp] theorem countEveryCycle_append (os os' : List Outputs) :
    countEveryCycle (os ++ os') = countEveryCycle os + countEveryCycle os' := by
  simp [countEveryCycle]

@[simp] theorem countAmb_cons (o : Outputs) (os : List Outputs) :
    countAmb (o :: os) = countAmb os + if o.amb then 1 else 0 := by
  simp [countAmb, List.countP_cons]

@[simp] theorem countAmb_append (os os' : List Outputs) : countAmb (os ++ os') = countAmb os + countAmb os' := by
  simp [countAmb]

end Sys2Proof.Machine
end

