-- ==== Sys2Proof/Tests/Slice0.lean ====
section
/-!
SUPPORT. Tests. Expected results come from spec/: the encodings of 30_encoding.md R49, the tables V1 to V5 of
95_test_vectors.md and the examples of the rules, never from the model. Then one witness for each statement that has hypotheses.
-/

namespace Sys2Proof.Tests

open Sys2Proof Sys2Proof.Machine Sys2Proof.Safety Sys2Proof.Stated

/-- A state with `prev_valid`, `prev_q` and one listed input word; the other registers are 0. -/
def tickState (pv : Bool) (pq : QState) (p : PinSample) : State :=
  { State.reset with prevValid := pv, prevQ := pq, inputs := [tickEdge p] }

/-- The state a step answers, if it answers one. -/
def next? (o : Host.Outcome State Fault Refusal) : Option State :=
  match o with
  | .next t => some t
  | .fault _ => none
  | .refused _ => none

/-- The seven registers, in the order the vectors list them. -/
structure Registers where
  pv    : Bool
  pq    : QState
  delta : DeltaCode
  amb   : Bool
  btn   : Bool
  swt   : Bool
  upd   : Bool
deriving DecidableEq, Repr

/-- The registers of a state. -/
def registers (s : State) : Registers := ⟨s.prevValid, s.prevQ, s.deltaR, s.ambR, s.btnR, s.swtR, s.updR⟩

/-- The registers after one step from a state. -/
def after (s : State) : Option Registers := (next? (step s)).map registers

/-! Well-formedness: the one check is the count of a pseudo-instruction (R53). -/

theorem test_wf_refuses_idle_zero : (Statement.idleTimes 0).wellFormed = false := by decide
theorem test_wf_refuses_rep_zero : (Statement.repTick 0 0b0001#4).wellFormed = false := by decide
theorem test_wf_accepts_count_one : (Statement.repTick 1 0b0001#4).wellFormed = true := by decide
theorem test_reader_refuses_idle_zero : readScript "IDLE 0".toList = none := by decide

/-! Decoding: every row's word, written out bit by bit from R49. -/

theorem test_decode_reset : decode 0b1010110#7 = .reset 0b010110#6 := by decide
theorem test_decode_idle : decode 0b0010110#7 = .idle 0b10110#5 := by decide
theorem test_decode_prime : decode 0b0100111#7 = .prime 0b0111#4 := by decide
theorem test_decode_tr00 :
    decode 0b0110000#7 = .tr0000 ∧
    decode 0b0110001#7 = .tr0001 ∧
    decode 0b0110010#7 = .tr0010 ∧
    decode 0b0110011#7 = .tr0011 := by decide
theorem test_decode_tr01 :
    decode 0b0110100#7 = .tr0100 ∧
    decode 0b0110101#7 = .tr0101 ∧
    decode 0b0110110#7 = .tr0110 ∧
    decode 0b0110111#7 = .tr0111 := by decide
theorem test_decode_tr10 :
    decode 0b0111000#7 = .tr1000 ∧
    decode 0b0111001#7 = .tr1001 ∧
    decode 0b0111010#7 = .tr1010 ∧
    decode 0b0111011#7 = .tr1011 := by decide
theorem test_decode_tr11 :
    decode 0b0111100#7 = .tr1100 ∧
    decode 0b0111101#7 = .tr1101 ∧
    decode 0b0111110#7 = .tr1110 ∧
    decode 0b0111111#7 = .tr1111 := by decide
theorem test_table_word_kept : decodeTableWord 8 0x3E = some .tr1110 := by decide
theorem test_table_word_refused : decodeTableWord 8 0x80 = none := by decide
theorem test_rows_do_not_overlap :
    opcodeTable.Pairwise (fun r r' => r.matchBits &&& r'.mask ≠ r'.matchBits &&& r.mask) := by decide

/-! The step runs a table word as the first step after reset. -/

theorem test_fetch_word_first_step :
    (next? (step (State.reset.withFetchWord 8 0x31))).map registers =
      some ⟨true, 0b01#2, 0b01#2, false, false, false, true⟩ := by decide
theorem test_fetch_word_reset_row :
    (next? (step (State.reset.withFetchWord 8 0x40))).map registers =
      some ⟨false, 0b00#2, 0b00#2, false, false, false, false⟩ := by decide

/-! V1 of 95_test_vectors.md: every lookup entry. -/

theorem test_V1_prev00 :
    after (tickState true 0b00#2 0b0000#4) = some ⟨true, 0b00#2, 0b00#2, false, false, false, true⟩ ∧
    after (tickState true 0b00#2 0b0001#4) = some ⟨true, 0b01#2, 0b01#2, false, false, false, true⟩ ∧
    after (tickState true 0b00#2 0b0010#4) = some ⟨true, 0b10#2, 0b11#2, false, false, false, true⟩ ∧
    after (tickState true 0b00#2 0b0011#4) = some ⟨true, 0b11#2, 0b00#2, true, false, false, true⟩ := by decide
theorem test_V1_prev01 :
    after (tickState true 0b01#2 0b0000#4) = some ⟨true, 0b00#2, 0b11#2, false, false, false, true⟩ ∧
    after (tickState true 0b01#2 0b0001#4) = some ⟨true, 0b01#2, 0b00#2, false, false, false, true⟩ ∧
    after (tickState true 0b01#2 0b0010#4) = some ⟨true, 0b10#2, 0b00#2, true, false, false, true⟩ ∧
    after (tickState true 0b01#2 0b0011#4) = some ⟨true, 0b11#2, 0b01#2, false, false, false, true⟩ := by decide
theorem test_V1_prev10 :
    after (tickState true 0b10#2 0b0000#4) = some ⟨true, 0b00#2, 0b01#2, false, false, false, true⟩ ∧
    after (tickState true 0b10#2 0b0001#4) = some ⟨true, 0b01#2, 0b00#2, true, false, false, true⟩ ∧
    after (tickState true 0b10#2 0b0010#4) = some ⟨true, 0b10#2, 0b00#2, false, false, false, true⟩ ∧
    after (tickState true 0b10#2 0b0011#4) = some ⟨true, 0b11#2, 0b11#2, false, false, false, true⟩ := by decide
theorem test_V1_prev11 :
    after (tickState true 0b11#2 0b0000#4) = some ⟨true, 0b00#2, 0b00#2, true, false, false, true⟩ ∧
    after (tickState true 0b11#2 0b0001#4) = some ⟨true, 0b01#2, 0b11#2, false, false, false, true⟩ ∧
    after (tickState true 0b11#2 0b0010#4) = some ⟨true, 0b10#2, 0b01#2, false, false, false, true⟩ ∧
    after (tickState true 0b11#2 0b0011#4) = some ⟨true, 0b11#2, 0b00#2, false, false, false, true⟩ := by decide

/-! V2: PRIME. V3: the button and switch lines. V4: clock level. -/

theorem test_V2_prime_at_11 : after (tickState false 0b00#2 0b0011#4) = some ⟨true, 0b11#2, 0b00#2, false, false, false, true⟩ := by
  decide
theorem test_V2_prime_levels : after (tickState false 0b00#2 0b1010#4) = some ⟨true, 0b10#2, 0b00#2, false, false, true, true⟩ := by
  decide
theorem test_V3_06 : after (tickState true 0b00#2 0b0110#4) = some ⟨true, 0b10#2, 0b11#2, false, true, false, true⟩ := by decide
theorem test_V3_11 : after (tickState true 0b00#2 0b1011#4) = some ⟨true, 0b11#2, 0b00#2, true, false, true, true⟩ := by decide
theorem test_V4_1_idle :
    after ⟨0b01#2, true, 0b01#2, false, true, false, true, [⟨false, false, 0b1111#4, 0b0000#4⟩], 0⟩ =
      some ⟨true, 0b01#2, 0b00#2, false, true, false, false⟩ := by decide
theorem test_V4_2_reset_wins :
    after ⟨0b11#2, true, 0b11#2, false, true, true, true, [⟨true, true, 0b0010#4, 0b0000#4⟩], 0⟩ =
      some ⟨false, 0b00#2, 0b00#2, false, false, false, false⟩ := by decide

/-! Codes and script (R47, R51, R53, R54). -/

theorem test_reserved_code_refused : RotationDelta.ofCode 0b10#2 = none := by decide
theorem test_script_text :
    readScript "RESET ; start\nREP 2 TICK 0b1011\nIDLE 2\nTICK 0xA\n".toList =
      some [.core .reset, .repTick 2 0b1011#4, .idleTimes 2, .core (.tick 0b1010#4)] := by decide
theorem test_script_inputs :
    scriptInputs [.core .reset, .repTick 2 0b1011#4] =
      [⟨true, false, 0b0000#4, 0b0000#4⟩, ⟨false, true, 0b1011#4, 0b0000#4⟩, ⟨false, true, 0b1011#4, 0b0000#4⟩] := by decide

/-! V5: net moves from a state (R115). -/

theorem test_V5_moves :
    moveSteps 0b00#2 3 = 0b10#2 ∧ moveSteps 0b00#2 (-3) = 0b01#2 ∧ moveSteps 0b01#2 (-2) = 0b10#2 ∧
    moveSteps 0b11#2 4 = 0b11#2 ∧ moveSteps 0b10#2 5 = 0b00#2 := by decide

/-! Witnesses: a concrete state and operands that meet all hypotheses of a statement, clause by clause. -/

/-- An idle, a reset and two tick edges to start from. -/
def idleState : State := { State.reset with prevValid := true, prevQ := 0b01#2, inputs := [idleEdge] }
def resetState : State := { State.reset with prevValid := true, prevQ := 0b01#2, inputs := [⟨true, true, 0b0010#4, 0b0000#4⟩] }

theorem witness_DecodeInvertsEncode :
    (Instr.reset 0b111111#6).wellFormed = true ∧ (Instr.idle 0b00000#5).wellFormed = true ∧
    (Instr.prime 0b1111#4).wellFormed = true ∧ Instr.tr1111.wellFormed = true := by decide
theorem witness_EncodeInvertsDecode : 127 < 2 ^ 8 ∧ 127 < 128 ∧ 128 < 2 ^ 8 ∧ ¬ 128 < 128 := by decide
theorem witness_StepRunsTheSelectedStep :
    decode (sel7 (tickState true 0b00#2 0b0001#4)) = .tr0001 ∧ Instr.tr0001.wellFormed = true := by decide
theorem witness_DrivenSelectorWordIsFormed : 7 ≤ 7 ∧ 127 < 128 ∧ 7 ≤ 8 ∧ 0 < 128 := by decide
theorem witness_StepPriority :
    resetState.input.rst = true ∧
    (idleState.input.rst = false ∧ idleState.input.tick = false) ∧
    (TickEdge (tickState false 0b00#2 0b0011#4) ∧ (tickState false 0b00#2 0b0011#4).prevValid = false) ∧
    (TickEdge (tickState true 0b00#2 0b0011#4) ∧ (tickState true 0b00#2 0b0011#4).prevValid = true) := by decide
theorem witness_SimultaneousEvents :
    resetState.inputs = [⟨true, true, 0b0010#4, 0b0000#4⟩] ∧
    (TickEdge (tickState false 0b00#2 0b0011#4) ∧ (tickState false 0b00#2 0b0011#4).prevValid = false) ∧
    TickEdge (tickState true 0b00#2 0b0011#4) ∧
    (next? (step (tickState true 0b00#2 0b0011#4))).map (·.ambR) = some true := by decide
theorem witness_ResetStep : resetState.input.rst = true ∧
    (next? (step { resetState with inputs := [resetEdge, tickEdge 0b0011#4] })).map (fun t => decide (TickEdge t)) = some true := by
  decide
theorem witness_IdleStep : idleState.input.rst = false ∧ idleState.input.tick = false := by decide
theorem witness_PrimeStep : TickEdge (tickState false 0b00#2 0b1111#4) ∧ (tickState false 0b00#2 0b1111#4).prevValid = false := by
  decide

/-- The hypotheses of EntryRule at one state. -/
abbrev Selected (pp cc : QState) (s : State) : Prop :=
  TickEdge s ∧ s.prevValid = true ∧ s.prevQ = pp ∧ (samplePins s).extractLsb' 0 2 = cc

theorem witness_HoldEntries :
    Selected 0b00#2 0b00#2 (tickState true 0b00#2 0b1100#4) ∧
    Selected 0b01#2 0b01#2 (tickState true 0b01#2 0b1101#4) ∧
    Selected 0b10#2 0b10#2 (tickState true 0b10#2 0b1110#4) ∧
    Selected 0b11#2 0b11#2 (tickState true 0b11#2 0b1111#4) := by decide
theorem witness_ClockwiseEntries :
    Selected 0b00#2 0b01#2 (tickState true 0b00#2 0b1101#4) ∧
    Selected 0b01#2 0b11#2 (tickState true 0b01#2 0b1111#4) ∧
    Selected 0b10#2 0b00#2 (tickState true 0b10#2 0b1100#4) ∧
    Selected 0b11#2 0b10#2 (tickState true 0b11#2 0b1110#4) := by decide
theorem witness_CounterClockwiseEntries :
    Selected 0b00#2 0b10#2 (tickState true 0b00#2 0b1110#4) ∧
    Selected 0b01#2 0b00#2 (tickState true 0b01#2 0b1100#4) ∧
    Selected 0b10#2 0b11#2 (tickState true 0b10#2 0b1111#4) ∧
    Selected 0b11#2 0b01#2 (tickState true 0b11#2 0b1101#4) := by decide
theorem witness_DiagonalEntries :
    Selected 0b00#2 0b11#2 (tickState true 0b00#2 0b1111#4) ∧
    Selected 0b01#2 0b10#2 (tickState true 0b01#2 0b1110#4) ∧
    Selected 0b10#2 0b01#2 (tickState true 0b10#2 0b1101#4) ∧
    Selected 0b11#2 0b00#2 (tickState true 0b11#2 0b1100#4) := by decide
theorem witness_TransitionTick : TickEdge (tickState true 0b10#2 0b0100#4) ∧ (tickState true 0b10#2 0b0100#4).prevValid = true := by
  decide
theorem witness_StepFrames :
    (∃ t, exec (.idle 0b00000#5) idleState = .next t) ∧ (∃ t, exec .tr0001 (tickState true 0b00#2 0b0001#4) = .next t) :=
  ⟨⟨_, rfl⟩, ⟨_, rfl⟩⟩
/-- Each kind of edge steps: for PrevValidRegister, PrevQRegister, DeltaRegister, AmbRegister, LevelRegisters, UpdRegister and
ReservedCodeNeverWritten. -/
theorem witness_register_statements :
    (∃ t, step resetState = .next t) ∧ (∃ t, step idleState = .next t) ∧
    (∃ t, step (tickState false 0b00#2 0b0011#4) = .next t) ∧ (∃ t, step (tickState true 0b00#2 0b0011#4) = .next t) :=
  ⟨⟨_, rfl⟩, ⟨_, rfl⟩, ⟨_, rfl⟩, ⟨_, rfl⟩⟩
theorem witness_register_clauses :
    TickEdge (tickState false 0b11#2 0b0011#4) ∧ (tickState false 0b11#2 0b0011#4).prevValid = false ∧
    TickEdge (tickState true 0b11#2 0b0011#4) ∧ (tickState true 0b11#2 0b0011#4).prevValid = true ∧
    ¬ TickEdge resetState ∧ ¬ TickEdge idleState := by decide
theorem witness_SampleIsDrivenOrDrawn :
    (tickState true 0b00#2 0b1010#4).input.changing = 0b0000#4 ∧ 3 < 4 ∧
    ({ State.reset with inputs := [⟨false, true, 0b0000#4, 0b1111#4⟩] } : State).input.changing.getLsbD 3 = true := by decide
theorem witness_BitTests :
    0b0100#4 &&& 0b0100#4 = 0b1111#4 &&& 0b0100#4 ∧ 0b1000#4 &&& 0b1000#4 = 0b1111#4 &&& 0b1000#4 := by decide
theorem witness_FieldIndependence :
    let s := tickState true 0b00#2 0b0001#4
    let t := tickState true 0b00#2 0b1101#4
    s.prevValid = t.prevValid ∧ s.prevQ = t.prevQ ∧ s.input.rst = t.input.rst ∧ s.input.tick = t.input.tick ∧
    (samplePins s).extractLsb' 0 2 = (samplePins t).extractLsb' 0 2 ∧ samplePins s ≠ samplePins t ∧
    (next? (step s)).isSome = true ∧ (next? (step t)).isSome = true ∧
    (0b1100#4).extractLsb' 2 2 = (0b1111#4).extractLsb' 2 2 := by decide
theorem witness_table_statements :
    phi 0b00#2 - phi 0b00#2 = 0#2 ∧ phi 0b01#2 - phi 0b00#2 = 1#2 ∧ phi 0b11#2 - phi 0b00#2 = 2#2 ∧
    phi 0b00#2 - phi 0b01#2 = 3#2 ∧ 0b01#2 ^^^ 0b01#2 = 0b00#2 ∧ 0b01#2 ^^^ 0b10#2 = 0b11#2 ∧ 0b10#2 ^^^ 0b11#2 = 0b01#2 ∧
    0b11#2 ^^^ 0b01#2 = 0b10#2 ∧ (12#4).toNat ∈ [3, 6, 9, 12] ∧ (lut 12#4).amb = true := by decide
theorem witness_TickEdgeTakesT : TickEdge (tickState true 0b01#2 0b0011#4) := by decide
theorem witness_TickOutputsIndependentOfPeriods :
    (⟨10, 30⟩ : Config.Timing).Legal ∧
    ({ State.reset with inputs := bootSchedule 3 [0b0001#4, 0b0011#4] } : State).inputs =
      bootSchedule (Config.Timing.edgesPerTick ⟨10, 30⟩) [0b0001#4, 0b0011#4] := by decide
theorem witness_HeldTickIsRepeatedTicks :
    let es : List EdgeInput := [tickEdge 0b0001#4, ⟨false, true, 0b0011#4, 0b0001#4⟩]
    ({ State.reset with inputs := es ++ [idleEdge] } : State).inputs = es ++ [idleEdge] ∧
    ∀ e ∈ es, e.rst = false ∧ e.tick = true := by decide
/-- One move for each clause: m = 0, 1, 2, -1, 3, -3, 4, -4. -/
theorem witness_LargerMoves :
    (∀ m ∈ [(0 : Int), 1, 2, -1, 3, -3, 4, -4],
      let s := tickState true 0b10#2 (0b00#2 ++ moveSteps 0b10#2 m)
      TickEdge s ∧ s.prevValid = true ∧ (samplePins s).extractLsb' 0 2 = moveSteps s.prevQ m) ∧
    (0 : Int) % 4 = 0 ∧ (1 : Int) % 4 = 1 ∧ (2 : Int) % 4 = 2 ∧ (-1 : Int) % 4 = 3 := by decide
theorem witness_CountsCorrectUnderPremise :
    SamplingPremise [5, 6, 5] ∧
    List.Forall₂ (fun p pos => curQ p = encoderState pos) [0b0101#4, 0b1011#4, 0b0001#4] [5, 6, 5] ∧
    ({ State.reset with inputs := bootSchedule 2 [0b0101#4, 0b1011#4, 0b0001#4] } : State).inputs =
      bootSchedule 2 [0b0101#4, 0b1011#4, 0b0001#4] :=
  ⟨by simp [SamplingPremise], .cons (by decide) (.cons (by decide) (.cons (by decide) .nil)), rfl⟩
theorem witness_DegradedInputCompletes :
    let s : State := { tickState true 0b01#2 0b0000#4 with inputs := [tickEdge 0b0110#4, tickEdge 0b0000#4] }
    TickEdge s ∧ s.prevValid = true ∧ s.prevQ ^^^ (samplePins s).extractLsb' 0 2 = 0b11#2 ∧
    (next? (step s)).map (fun t => decide (TickEdge t)) = some true := by decide
theorem witness_ResetSequence :
    let rs : List EdgeInput := [⟨true, true, 0b0011#4, 0b0000#4⟩, resetEdge]
    let is : List EdgeInput := [⟨false, false, 0b1111#4, 0b1111#4⟩]
    rs ≠ [] ∧ (∀ r ∈ rs, r.rst = true) ∧ (∀ i ∈ is, i.rst = false ∧ i.tick = false) ∧
    (tickEdge 0b0011#4).rst = false ∧ (tickEdge 0b0011#4).tick = true ∧
    ({ State.reset with inputs := rs ++ (is ++ tickEdge 0b0011#4 :: []) } : State).inputs =
      rs ++ (is ++ tickEdge 0b0011#4 :: []) := by decide
theorem witness_IdleEdgesHold :
    let is : List EdgeInput := [idleEdge, ⟨false, false, 0b1111#4, 0b1111#4⟩]
    is ≠ [] ∧ (∀ i ∈ is, i.rst = false ∧ i.tick = false) ∧
    ({ State.reset with inputs := is ++ [tickEdge 0b0001#4] } : State).inputs = is ++ [tickEdge 0b0001#4] := by decide
theorem witness_EveryEdgeKeepsInvariant :
    StateInv (tickState true 0b01#2 0b0010#4) ∧ StateInv (tickState false 0b00#2 0b1111#4) ∧
    (next? (step (tickState true 0b01#2 0b0010#4))).isSome = true := by decide
/-- A state no run reaches, with the reserved code: the statements over every state cover it. -/
theorem witness_unreachable_state : ¬ StateInv { State.reset with deltaR := 0b10#2 } := by decide
theorem witness_ResetErasesThePast :
    (State.powerUp [resetEdge, tickEdge 0b0011#4]).inputs = ({ State.reset with inputs := [resetEdge, tickEdge 0b0011#4] } : State).inputs ∧
    (State.powerUp [resetEdge, tickEdge 0b0011#4]).edgeNo = State.reset.edgeNo ∧
    (State.powerUp [resetEdge, tickEdge 0b0011#4]).input.rst = true := ⟨rfl, rfl, rfl⟩
theorem witness_StalePrevQNeverSeen : (tickState false 0b11#2 0b0000#4).prevValid = false := by decide
theorem witness_LevelsNeverReachMotion :
    (tickState true 0b00#2 0b0001#4).prevQ = (tickState true 0b00#2 0b1101#4).prevQ ∧
    (tickState true 0b00#2 0b0001#4).prevValid = (tickState true 0b00#2 0b1101#4).prevValid ∧
    (tickState true 0b00#2 0b0001#4).edgeNo = (tickState true 0b00#2 0b1101#4).edgeNo ∧
    List.Forall₂ SameMotionInput (tickState true 0b00#2 0b0001#4).inputs (tickState true 0b00#2 0b1101#4).inputs :=
  ⟨rfl, rfl, rfl, .cons (by decide) .nil⟩
theorem witness_MotionNeverReachesLevels :
    (tickState true 0b00#2 0b1101#4).btnR = (tickState false 0b11#2 0b1110#4).btnR ∧
    (tickState true 0b00#2 0b1101#4).swtR = (tickState false 0b11#2 0b1110#4).swtR ∧
    (tickState true 0b00#2 0b1101#4).edgeNo = (tickState false 0b11#2 0b1110#4).edgeNo ∧
    List.Forall₂ SameLevelInput (tickState true 0b00#2 0b1101#4).inputs (tickState false 0b11#2 0b1110#4).inputs :=
  ⟨rfl, rfl, rfl, .cons (by decide) .nil⟩
theorem witness_ScriptWords : State.reset.prevValid = false ∧ idleState.prevValid = true ∧
    (tickState true 0b00#2 0b0001#4).prevQ = 0b00#2 := by decide

end Sys2Proof.Tests
end

