-- ==== Sys2Proof/Proofs/StateRegisters.lean ====
section
/-!
PROOFS. The registers `prev_valid`, `delta_r`, `amb_r`, `btn_r`, `swt_r` and `upd_r`, edge by edge (10_state.md R15, R17 to R21):
one equation a register for the state after the coming edge, what the lookup of a tick answers, and from these the statements.
-/

namespace Sys2Proof.Machine

open Sys2Proof.Stated (TickEdge)

/-- An edge has one outcome, so a state it leads to is the state after it. -/
theorem eq_afterEdge_of_step {s t : State} (h : step s = .next t) : t = s.afterEdge := by
  rw [step_eq] at h
  exact (Host.Outcome.next.inj h).symm

/-! What a tick's lookup answers (R87, R88). -/

theorem State.tickResult_of_not_prevValid {s : State} (h : s.prevValid = false) : s.tickResult = noMotion := by
  simp [tickResult, h]

theorem State.tickResult_of_prevValid {s : State} (h : s.prevValid = true) :
    s.tickResult = lut (lutIndex s.prevQ (curQ (samplePins s))) := by
  simp [tickResult, h]

/-- A tick never reports the reserved code. -/
theorem State.tickResult_delta_legal (s : State) :
    s.tickResult.delta = 0b00#2 ∨ s.tickResult.delta = 0b01#2 ∨ s.tickResult.delta = 0b11#2 := by
  cases hp : s.prevValid with
  | false => exact .inl (by rw [tickResult_of_not_prevValid hp]; rfl)
  | true => rw [tickResult_of_prevValid hp]; exact lut_delta_legal _

/-- A tick reports degraded input exactly when it is not the first one and both channels changed. -/
theorem State.tickResult_amb_iff (s : State) :
    s.tickResult.amb = true ↔ s.prevValid = true ∧ s.prevQ ^^^ curQ (samplePins s) = 0b11#2 := by
  cases hp : s.prevValid with
  | false => simp [tickResult_of_not_prevValid hp, noMotion]
  | true => simp only [tickResult_of_prevValid hp, lut_amb_iff, true_and]

/-! Each register after the coming edge. -/

theorem State.afterEdge_prevValid (s : State) :
    s.afterEdge.prevValid = (!s.input.rst && (s.input.tick || s.prevValid)) := by
  obtain ⟨hr, h⟩ | ⟨hr, ht, h⟩ | ⟨hr, ht, h⟩ := s.edge_cases <;> simp [*]

theorem State.afterEdge_deltaR (s : State) :
    s.afterEdge.deltaR = if TickEdge s then s.tickResult.delta else 0b00#2 := by
  obtain ⟨hr, h⟩ | ⟨hr, ht, h⟩ | ⟨hr, ht, h⟩ := s.edge_cases <;> simp [*]

theorem State.afterEdge_ambR (s : State) :
    s.afterEdge.ambR = if TickEdge s then s.tickResult.amb else false := by
  obtain ⟨hr, h⟩ | ⟨hr, ht, h⟩ | ⟨hr, ht, h⟩ := s.edge_cases <;> simp [*]

theorem State.afterEdge_btnR (s : State) :
    s.afterEdge.btnR =
      if s.input.rst then false else if s.input.tick then buttonPressed (samplePins s) else s.btnR := by
  obtain ⟨hr, h⟩ | ⟨hr, ht, h⟩ | ⟨hr, ht, h⟩ := s.edge_cases <;> simp [*]

theorem State.afterEdge_swtR (s : State) :
    s.afterEdge.swtR =
      if s.input.rst then false else if s.input.tick then switchOn (samplePins s) else s.swtR := by
  obtain ⟨hr, h⟩ | ⟨hr, ht, h⟩ | ⟨hr, ht, h⟩ := s.edge_cases <;> simp [*]

theorem State.afterEdge_updR_iff (s : State) :
    s.afterEdge.updR = true ↔ TickEdge s := by
  obtain ⟨hr, h⟩ | ⟨hr, ht, h⟩ | ⟨hr, ht, h⟩ := s.edge_cases <;> simp [TickEdge, *]

end Sys2Proof.Machine

namespace Sys2Proof.Proofs.StateRegisters

open Sys2Proof Sys2Proof.Machine Sys2Proof.Stated

/-- Settles O19: the value after an edge is the register's equation, and bit 4 is a field of the selector word. -/
theorem prevValidRegister : Obligations.PrevValidRegister := by
  refine ⟨rfl, fun s t h => ?_, fun s => ?_, fun _ _ => rfl⟩
  · rw [eq_afterEdge_of_step h, State.afterEdge_prevValid]
  · obtain ⟨-, -, hpv, -⟩ := sel7_fields s
    exact hpv

/-- Settles O21: after a tick edge `delta_r` is the delta of the tick's lookup, which is that of the pair's class. -/
theorem deltaRegister : Obligations.DeltaRegister := by
  refine ⟨rfl, fun s t h => ?_⟩
  rw [eq_afterEdge_of_step h, State.afterEdge_deltaR]
  refine ⟨fun htick hp => ?_, fun htick hp => ?_, fun hno => if_neg hno, ?_⟩
  · rw [if_pos htick, State.tickResult_of_not_prevValid hp]
    rfl
  · rw [if_pos htick, State.tickResult_of_prevValid hp]
    exact lut_delta _ _
  · split
    · exact s.tickResult_delta_legal
    · exact .inl rfl

/-- Settles O22: after a tick edge `amb_r` is the flag of the tick's lookup, and 0 after any other edge. -/
theorem ambRegister : Obligations.AmbRegister := by
  refine ⟨rfl, fun s t h => ?_⟩
  rw [eq_afterEdge_of_step h, State.afterEdge_ambR]
  by_cases htick : TickEdge s
  · rw [if_pos htick, State.tickResult_amb_iff]
    exact (and_iff_right htick).symm
  · rw [if_neg htick]
    exact iff_of_false Bool.false_ne_true fun ⟨htick', _⟩ => htick htick'

/-- Settles O23: both levels by their registers' equations, the bit tests being bits 2 and 3 of the sample. -/
theorem levelRegisters : Obligations.LevelRegisters := by
  refine ⟨rfl, rfl, fun s t h => ?_⟩
  rw [eq_afterEdge_of_step h]
  exact ⟨s.afterEdge_btnR, s.afterEdge_swtR⟩

/-- A state after some tick that sampled 00, with the given input word due at the coming edge. -/
def restingState (e : EdgeInput) : State := { State.reset with prevValid := true, inputs := [e] }

/-- A HOLD tick at rest and an idle edge at rest leave outputs that differ in `upd` alone. -/
theorem restingState_outputs :
    (restingState (tickEdge 0b0000#4)).afterEdge.outputs = ⟨0b00#2, false, false, false, true⟩ ∧
    (restingState idleEdge).afterEdge.outputs = ⟨0b00#2, false, false, false, false⟩ := by
  decide

/-- Settles O24: the register's equivalence, and a HOLD tick against an idle edge, both from a state at rest. -/
theorem updRegister : Obligations.UpdRegister := by
  refine ⟨rfl, fun s t h => ?_, ?_⟩
  · rw [eq_afterEdge_of_step h]
    exact s.afterEdge_updR_iff
  · obtain ⟨htick, hidle⟩ := restingState_outputs
    refine ⟨restingState (tickEdge 0b0000#4), restingState idleEdge, _, _, by decide, by decide, step_eq _, step_eq _, ?_, ?_⟩
    · rw [htick, hidle]
      rfl
    · rw [htick, hidle]
      exact Bool.false_ne_true.symm

end Sys2Proof.Proofs.StateRegisters
end

