-- ==== Sys2Proof/Proofs/Encoding.lean ====
section
/-!
PROOFS. The selector word and its rows (30_encoding.md R49), the clockwise cycle (R43, R44) and the words of a script (R54).
The rows are read through `encode_decode`: a word is the word of the step kind it decodes to, so what holds of a row's
words is said of the step kinds.
-/

namespace Sys2Proof

/-! The rows of SEL7 (R49). -/

/-- No bit of a selector word is lost in decoding. -/
theorem encode_decode (w : Sel7) : encode (decode w) = w := by
  revert w; decide

/-- An IDLE word is no RESET word. -/
theorem not_resetMask_of_idleMask (w : Sel7) : w &&& 0x60#7 = 0x00#7 → w &&& 0x40#7 ≠ 0x40#7 := by
  revert w; decide

/-- A PRIME word is neither a RESET word nor an IDLE word. -/
theorem not_resetMask_and_not_idleMask_of_primeMask (w : Sel7) :
    w &&& 0x70#7 = 0x20#7 → w &&& 0x40#7 ≠ 0x40#7 ∧ w &&& 0x60#7 ≠ 0x00#7 := by
  revert w; decide

/-- The RESET row, `1xxxxxx`. -/
theorem resetMask_iff (w : Sel7) : w &&& 0x40#7 = 0x40#7 ↔ ∃ x, decode w = .reset x := by
  refine ⟨fun h => ⟨_, if_pos h⟩, fun ⟨x, h⟩ => ?_⟩
  have hrow : ∀ x, encode (.reset x) &&& 0x40#7 = 0x40#7 := by decide
  rw [← encode_decode w, h, hrow]

/-- The IDLE row, `00xxxxx`. -/
theorem idleMask_iff (w : Sel7) : w &&& 0x60#7 = 0x00#7 ↔ ∃ x, decode w = .idle x := by
  refine ⟨fun h => ⟨w.extractLsb' 0 5, ?_⟩, fun ⟨x, h⟩ => ?_⟩
  · rw [decode, if_neg (not_resetMask_of_idleMask w h), if_pos h]
  · have hrow : ∀ x, encode (.idle x) &&& 0x60#7 = 0x00#7 := by decide
    rw [← encode_decode w, h, hrow]

/-- The PRIME row, `010xxxx`. -/
theorem primeMask_iff (w : Sel7) : w &&& 0x70#7 = 0x20#7 ↔ ∃ x, decode w = .prime x := by
  refine ⟨fun h => ⟨w.extractLsb' 0 4, ?_⟩, fun ⟨x, h⟩ => ?_⟩
  · obtain ⟨hreset, hidle⟩ := not_resetMask_and_not_idleMask_of_primeMask w h
    rw [decode, if_neg hreset, if_neg hidle, if_pos h]
  · have hrow : ∀ x, encode (.prime x) &&& 0x70#7 = 0x20#7 := by decide
    rw [← encode_decode w, h, hrow]

/-- The word `011ppcc` decodes to the TR row of its pair. -/
theorem decode_transitionWord (pp cc : QState) : decode (0b011#3 ++ pp ++ cc) = transitionStep pp cc :=
  decode_fields false true true pp cc

/-- The rule's sum of fields is the word `011ppcc`. -/
theorem transitionWord_eq_sum (pp cc : QState) :
    0x30#7 + 4#7 * pp.setWidth 7 + cc.setWidth 7 = 0b011#3 ++ pp ++ cc := by
  revert pp cc; decide

/-- The sixteen TR rows, `011ppcc`, which leave no bit open. -/
theorem transitionMask_iff (w : Sel7) (pp cc : QState) :
    w &&& 0x7F#7 = 0x30#7 + 4#7 * pp.setWidth 7 + cc.setWidth 7 ↔ decode w = transitionStep pp cc := by
  have hmask : w &&& 0x7F#7 = w := BitVec.and_allOnes
  rw [hmask, transitionWord_eq_sum]
  constructor
  · rintro rfl
    exact decode_transitionWord pp cc
  · intro h
    rw [← encode_decode w, h, encode_transitionStep]

/-- The word of a step kind, its open bits at any value, is selected by that step kind's own row of the opcode table alone. -/
theorem rows_selecting_encode (i : Instr) :
    (opcodeTable.filter (·.selects (encode i))).map (·.mnemonic) = [i.mnemonic] := by
  cases i with
  | reset x => revert x; decide
  | idle x => revert x; decide
  | prime x => revert x; decide
  | _ => decide

/-- A selector word is selected by the row of the step kind it decodes to alone. -/
theorem rows_selecting (w : Sel7) :
    (opcodeTable.filter (·.selects w)).map (·.mnemonic) = [(decode w).mnemonic] := by
  have h := rows_selecting_encode (decode w)
  rwa [encode_decode] at h

theorem countP_rows_selecting (w : Sel7) : opcodeTable.countP (·.selects w) = 1 := by
  rw [List.countP_eq_length_filter, ← List.length_map (·.mnemonic), rows_selecting]
  rfl

theorem find?_row_selecting (w : Sel7) :
    (opcodeTable.find? (·.selects w)).map (·.mnemonic) = some (decode w).mnemonic := by
  rw [← List.head?_filter, ← List.head?_map, rows_selecting]
  rfl

end Sys2Proof

namespace Sys2Proof.Machine

open Sys2Proof.Stated (TickEdge)

/-! The clockwise cycle (R43, R44). -/

theorem nextCcw_nextCw (q : QState) : nextCcw (nextCw q) = q := by
  revert q; decide

theorem nextCw_nextCcw (q : QState) : nextCw (nextCcw q) = q := by
  revert q; decide

/-- A clockwise step changes one channel. -/
theorem xor_nextCw (q : QState) : q ^^^ nextCw q = 0b01#2 ∨ q ^^^ nextCw q = 0b10#2 := by
  revert q; decide

/-- The diagonal pairs. -/
theorem xor_eq_both_iff (p q : QState) :
    p ^^^ q = 0b11#2 ↔
      (p = 0b00#2 ∧ q = 0b11#2) ∨ (p = 0b11#2 ∧ q = 0b00#2) ∨ (p = 0b01#2 ∧ q = 0b10#2) ∨ (p = 0b10#2 ∧ q = 0b01#2) := by
  revert p q; decide

/-! Which step a tick edge selects (R49, R92). -/

theorem decode_sel7_of_not_prevValid {s : State} (htick : TickEdge s) (hp : s.prevValid = false) :
    decode (sel7 s) = .prime (s.prevQ ++ curQ (samplePins s)) := by
  simp [decode_sel7, htick, hp]

theorem decode_sel7_of_prevValid {s : State} (htick : TickEdge s) (hp : s.prevValid = true) :
    decode (sel7 s) = transitionStep s.prevQ (curQ (samplePins s)) := by
  simp [decode_sel7, htick, hp]

/-! A script's first statement at the coming edge (R54). -/

section LoadedStatement

variable (s : State) (c : CoreStatement) (p : PinSample) (prog : List Statement)

@[simp] theorem State.input_load_core : (s.load (.core c :: prog)).input = EdgeInput.ofIn6 c.in6 := rfl

/-- The pins of an input word are stable, so the edge samples its two low bits. -/
@[simp] theorem curQ_samplePins_load_core :
    curQ (samplePins (s.load (.core c :: prog))) = c.in6.extractLsb' 0 2 := by
  rw [samplePins, State.input_load_core, EdgeInput.sample_stable rfl]
  generalize c.in6 = w
  revert w; decide

theorem tickEdge_load_tick : TickEdge (s.load (.core (.tick p) :: prog)) := by
  have hports : ∀ q, (EdgeInput.ofIn6 (CoreStatement.tick q).in6).rst = false ∧
      (EdgeInput.ofIn6 (CoreStatement.tick q).in6).tick = true := by decide
  exact hports p

/-- The block completes SEL7 from the statement's word and its own registers. -/
theorem sel7_load_core :
    sel7 (s.load (.core c :: prog)) =
      c.in6.extractLsb' 5 1 ++ c.in6.extractLsb' 4 1 ++ BitVec.ofBool s.prevValid ++ s.prevQ ++ c.in6.extractLsb' 0 2 := by
  have hbit : ∀ w : In6, BitVec.ofBool (w.getLsbD 5) = w.extractLsb' 5 1 ∧
      BitVec.ofBool (w.getLsbD 4) = w.extractLsb' 4 1 := by decide
  obtain ⟨hrst, htick⟩ := hbit c.in6
  rw [sel7, curQ_samplePins_load_core, ← hrst, ← htick]
  rfl

end LoadedStatement

/-! The pins of a reset or idle edge reach nothing (R54, R89, R90). -/

theorem step_congr_of_reset (s : State) {e f : EdgeInput} (rest : List EdgeInput) (he : e.rst = true) (hf : f.rst = true) :
    step { s with inputs := e :: rest } = step { s with inputs := f :: rest } := by
  rw [step_eq, step_eq, State.afterEdge_reset (s := { s with inputs := e :: rest }) he,
    State.afterEdge_reset (s := { s with inputs := f :: rest }) hf]
  rfl

theorem step_congr_of_idle (s : State) {e f : EdgeInput} (rest : List EdgeInput) (her : e.rst = false)
    (het : e.tick = false) (hfr : f.rst = false) (hft : f.tick = false) :
    step { s with inputs := e :: rest } = step { s with inputs := f :: rest } := by
  rw [step_eq, step_eq, State.afterEdge_idle (s := { s with inputs := e :: rest }) her het,
    State.afterEdge_idle (s := { s with inputs := f :: rest }) hfr hft]
  rfl

end Sys2Proof.Machine

namespace Sys2Proof.Proofs.Encoding

open Sys2Proof Sys2Proof.Machine

/-- Settles O2: the fields are those of the formed word, and each row's pattern is met by the words of its step kind alone. -/
theorem selectorWordSelectsOneStep : Obligations.SelectorWordSelectsOneStep :=
  ⟨sel7_fields, fun w => ⟨resetMask_iff w, idleMask_iff w, primeMask_iff w, transitionMask_iff w,
    countP_rows_selecting w, find?_row_selecting w⟩⟩

/-- Settles O28: the eight rows by evaluation, the rest over the four states. -/
theorem clockwiseCycle : Obligations.ClockwiseCycle :=
  ⟨rfl, rfl, rfl, rfl, rfl, rfl, rfl, rfl, fun q => ⟨nextCcw_nextCw q, nextCw_nextCcw q⟩, xor_nextCw, xor_eq_both_iff⟩

/-- Settles O58: a loaded statement's word is what the ports carry at the coming edge, and a reset or idle edge reads no
pins. -/
theorem scriptWords : Obligations.ScriptWords := by
  refine ⟨rfl, rfl, fun _ => rfl, sel7_load_core, fun s prog hp => ?_, fun s prog hp hq => ?_,
    fun s p c rest => ⟨?_, ?_⟩⟩
  · exact ⟨_, decode_sel7_of_not_prevValid (tickEdge_load_tick s _ prog) hp⟩
  · rw [decode_sel7_of_prevValid (tickEdge_load_tick s _ prog) hp, curQ_samplePins_load_core, State.load_prevQ, hq]
    rfl
  · exact step_congr_of_reset s rest rfl rfl
  · exact step_congr_of_idle s rest rfl rfl rfl rfl

end Sys2Proof.Proofs.Encoding
end

/-!
PROOFS. The bit tests of the sampler (40_sampler.md R57, R58). Each test is one bit of the sample: its value is read through
the one-bit field, its independence of the other bits through the mask of that bit.
-/

namespace Sys2Proof.Machine

/-! The bit tests (R57, R58). -/

/-- `button_pressed` is the rule's `s[2] == 1`. -/
theorem buttonPressed_iff (p : PinSample) : buttonPressed p = true ↔ p.extractLsb' 2 1 = 1#1 := by
  rw [buttonPressed, BitVec.getLsbD_eq_extractLsb', beq_iff_eq]

/-- `switch_on` is the rule's `s[3] == 1`. -/
theorem switchOn_iff (p : PinSample) : switchOn p = true ↔ p.extractLsb' 3 1 = 1#1 := by
  rw [switchOn, BitVec.getLsbD_eq_extractLsb', beq_iff_eq]

/-- Words that agree under a mask agree in each bit the mask keeps. -/
theorem getLsbD_congr_of_and_eq {w i : Nat} {p q mask : BitVec w} (hmask : mask.getLsbD i = true)
    (h : p &&& mask = q &&& mask) : p.getLsbD i = q.getLsbD i := by
  have hbit : (p &&& mask).getLsbD i = (q &&& mask).getLsbD i := by rw [h]
  simpa [hmask] using hbit

/-- `button_pressed` depends on bit 2 alone. -/
theorem buttonPressed_congr {p q : PinSample} (h : p &&& 0b0100#4 = q &&& 0b0100#4) : buttonPressed p = buttonPressed q :=
  getLsbD_congr_of_and_eq (i := 2) rfl h

/-- `switch_on` depends on bit 3 alone. -/
theorem switchOn_congr {p q : PinSample} (h : p &&& 0b1000#4 = q &&& 0b1000#4) : switchOn p = switchOn q :=
  getLsbD_congr_of_and_eq (i := 3) rfl h

end Sys2Proof.Machine

namespace Sys2Proof.Proofs.Sampler

open Sys2Proof Sys2Proof.Machine

/-- Settles O26: each test is one bit of the sample, and the rules' examples by evaluation. -/
theorem bitTests : Obligations.BitTests :=
  ⟨fun p => ⟨buttonPressed_iff p, switchOn_iff p⟩, fun _ _ => buttonPressed_congr, fun _ _ => switchOn_congr,
    rfl, rfl, rfl, rfl⟩

end Sys2Proof.Proofs.Sampler

/-!
PROOFS. The lookup table (41_transition_lookup.md). An entry's result is that of its class (`lut_eq_of_class`), so one rule a
class, over all four previous states, gives the class's four entries (R62 to R77) and what the table as a whole answers (R83, R84).
-/

namespace Sys2Proof.Machine

/-! The classes of the table by the two states (R46). -/

/-- An unchanged state is a HOLD. -/
theorem classify_self (q : QState) : classify q q = .hold := if_pos rfl

theorem classify_nextCw (q : QState) : classify q (nextCw q) = .cw := by
  have hmoved : ∀ q : QState, nextCw q ≠ q := by decide
  rw [classify, if_neg (hmoved q), if_pos rfl]

theorem classify_nextCcw (q : QState) : classify q (nextCcw q) = .ccw := by
  have hmoved : ∀ q : QState, nextCcw q ≠ q ∧ nextCcw q ≠ nextCw q := by decide
  obtain ⟨hself, hcw⟩ := hmoved q
  rw [classify, if_neg hself, if_neg hcw, if_pos rfl]

/-- The DIAG class is a change of both channels. -/
theorem classify_eq_diag_iff (prev cur : QState) : classify prev cur = .diag ↔ prev ^^^ cur = 0b11#2 := by
  revert prev cur; decide

/-- Both channels changed: the current state is the complement of the previous one. -/
theorem classify_not (q : QState) : classify q (~~~q) = .diag := by
  have hboth : ∀ q : QState, q ^^^ ~~~q = 0b11#2 := by decide
  exact (classify_eq_diag_iff q (~~~q)).mpr (hboth q)

/-! The results of the table. -/

/-- An entry's result is that of its class: the class's delta, and the flag for DIAG alone. -/
theorem lut_eq_of_class {prev cur : QState} {c : TransitionClass} (h : classify prev cur = c) :
    lut (lutIndex prev cur) = ⟨c.rotation.code, decide (c = .diag)⟩ := by
  have hamb : (lut (lutIndex prev cur)).amb = decide (c = .diag) := by
    rw [Bool.eq_iff_iff, lut_amb_iff, decide_eq_true_iff, ← h, classify_eq_diag_iff]
  rw [← hamb, ← h, ← lut_delta]

/-- A consumer reads a port code back as the RotationDelta it stands for. -/
theorem RotationDelta.ofCode_code (d : RotationDelta) : ofCode d.code = some d := by
  cases d <;> rfl

theorem RotationDelta.code_injective : Function.Injective RotationDelta.code := fun d e h =>
  Option.some.inj (by rw [← ofCode_code d, h, ofCode_code])

/-- An index is made of its two states. -/
theorem lutIndex_extract (idx : LutIndex) : lutIndex (idx.extractLsb' 2 2) (idx.extractLsb' 0 2) = idx := by
  revert idx; decide

/-- The indices of the diagonal pairs. -/
theorem extract_xor_eq_both_iff (idx : LutIndex) :
    idx.extractLsb' 2 2 ^^^ idx.extractLsb' 0 2 = 0b11#2 ↔ idx.toNat ∈ [3, 6, 9, 12] := by
  revert idx; decide

theorem lut_amb_iff_mem (idx : LutIndex) : (lut idx).amb = true ↔ idx.toNat ∈ [3, 6, 9, 12] := by
  rw [← extract_xor_eq_both_iff, ← lut_amb_iff, lutIndex_extract]

end Sys2Proof.Machine

namespace Sys2Proof.Stated

open Sys2Proof.Machine

/-! The rule of an entry, one lemma a class. -/

/-- The TR step of a pair obeys the entry rule with its class's result: a tick selects the step, and the step stores the sample
with that result. -/
theorem entryRule_of_class {pp cc : QState} {c : TransitionClass} (h : classify pp cc = c) :
    EntryRule (transitionStep pp cc) pp cc c.rotation.code (decide (c = .diag)) := by
  refine ⟨encode_transitionStep pp cc, entry_transitionStep pp cc, lut_eq_of_class h, fun s htick hp hpp hcc => ?_⟩
  subst hpp hcc
  refine ⟨decode_sel7_of_prevValid htick hp, ?_⟩
  rw [exec_transitionStep, lut_eq_of_class h]
  rfl

theorem entryRule_hold (q : QState) : EntryRule (transitionStep q q) q q 0b00#2 false :=
  entryRule_of_class (classify_self q)

theorem entryRule_cw (q : QState) : EntryRule (transitionStep q (nextCw q)) q (nextCw q) 0b01#2 false :=
  entryRule_of_class (classify_nextCw q)

theorem entryRule_ccw (q : QState) : EntryRule (transitionStep q (nextCcw q)) q (nextCcw q) 0b11#2 false :=
  entryRule_of_class (classify_nextCcw q)

theorem entryRule_diag (q : QState) : EntryRule (transitionStep q (~~~q)) q (~~~q) 0b00#2 true :=
  entryRule_of_class (classify_not q)

end Sys2Proof.Stated

namespace Sys2Proof.Proofs.Lookup

open Sys2Proof Sys2Proof.Machine Sys2Proof.Stated

/-- Settles O12: the HOLD rule at each previous state. -/
theorem holdEntries : Obligations.HoldEntries :=
  ⟨entryRule_hold 0b00#2, entryRule_hold 0b01#2, entryRule_hold 0b10#2, entryRule_hold 0b11#2⟩

/-- Settles O13: the CW rule at each previous state. -/
theorem clockwiseEntries : Obligations.ClockwiseEntries :=
  ⟨entryRule_cw 0b00#2, entryRule_cw 0b01#2, entryRule_cw 0b10#2, entryRule_cw 0b11#2⟩

/-- Settles O14: the CCW rule at each previous state. -/
theorem counterClockwiseEntries : Obligations.CounterClockwiseEntries :=
  ⟨entryRule_ccw 0b00#2, entryRule_ccw 0b01#2, entryRule_ccw 0b10#2, entryRule_ccw 0b11#2⟩

/-- Settles O15: the DIAG rule at each previous state. -/
theorem diagonalEntries : Obligations.DiagonalEntries :=
  ⟨entryRule_diag 0b00#2, entryRule_diag 0b01#2, entryRule_diag 0b10#2, entryRule_diag 0b11#2⟩

/-- Settles O31: the delta is the code of the class's RotationDelta, and no two RotationDeltas share a code. -/
theorem lookupGivesOneRotation : Obligations.LookupGivesOneRotation := by
  intro cur prev
  have hdelta : (decodeTransition cur prev).delta = (classify prev cur).rotation.code := lut_delta prev cur
  refine ⟨⟨_, hdelta, fun d hd => ?_⟩, hdelta, lut_amb_iff prev cur⟩
  exact RotationDelta.code_injective (hd.symm.trans hdelta)

/-- Settles O36: the flagged entries are those of the diagonal indices, and a flagged entry reports no motion. -/
theorem diagonalNeverCounts : Obligations.DiagonalNeverCounts :=
  ⟨fun idx hidx => lut_delta_of_amb idx ((lut_amb_iff_mem idx).mpr hidx), lut_amb_iff_mem⟩

end Sys2Proof.Proofs.Lookup

/-!
PROOFS. The tick machine (42_tick_machine.md R86 to R92). Which step an edge selects and what that step writes are said apart,
one lemma a step kind; a tick edge is then tied to the tick-level step T through the lookup result they share.
-/

namespace Sys2Proof.Machine

open Sys2Proof.Stated (RegistersReset TickEdge)

/-! Which step an edge without a tick selects (R92). -/

theorem exists_decode_sel7_eq_reset {s : State} (hr : s.input.rst = true) : ∃ x, decode (sel7 s) = .reset x :=
  ⟨_, by rw [decode_sel7, if_pos hr]⟩

theorem exists_decode_sel7_eq_idle {s : State} (hr : s.input.rst = false) (ht : s.input.tick = false) :
    ∃ x, decode (sel7 s) = .idle x :=
  ⟨BitVec.ofBool s.prevValid ++ s.prevQ ++ curQ (samplePins s), by simp [decode_sel7, hr, ht]⟩

/-! What the steps RESET, IDLE and PRIME write (R89, R90, R87); their open bits have no effect. -/

theorem exec_reset (x : BitVec 6) (s : State) : exec (.reset x) s = .next s.resetRegisters := rfl

theorem exec_idle (x : BitVec 5) (s : State) : exec (.idle x) s = .next s.clearPulses := rfl

theorem exec_prime (x : BitVec 4) (s : State) : exec (.prime x) s = .next (s.takeTick noMotion) := rfl

/-- A reset edge leaves the seven reset values, whatever the registers held and the other ports carry. -/
theorem registersReset_afterEdge {s : State} (hr : s.input.rst = true) : RegistersReset s.afterEdge := by
  simp [RegistersReset, State.afterEdge_reset hr]

/-! The tick level (R86, R91). -/

/-- On the registers and the sample of the coming edge, T reports the lookup result that the edge itself takes. -/
theorem tickStep_tickState (s : State) :
    tickStep s.tickState (samplePins s) =
      (⟨true, curQ (samplePins s)⟩,
        ⟨s.tickResult.delta, s.tickResult.amb, buttonPressed (samplePins s), switchOn (samplePins s)⟩) := rfl

/-- A tick edge takes T: its next state and its outputs stand in the registers. -/
theorem afterEdge_tick_eq_tickStep {s : State} (htick : TickEdge s) :
    (s.afterEdge.tickState, s.afterEdge.tickOutput) = tickStep s.tickState (samplePins s) := by
  obtain ⟨hr, ht⟩ := htick
  rw [State.afterEdge_tick hr ht, tickStep_tickState]
  rfl

end Sys2Proof.Machine

namespace Sys2Proof.Proofs.TickMachine

open Sys2Proof Sys2Proof.Machine Sys2Proof.Stated

/-- Settles O9: the reset writes are `resetRegisters`, and a tick after them finds `prev_valid` = 0. -/
theorem resetStep : Obligations.ResetStep := by
  refine ⟨exec_reset, fun s hr => ⟨exists_decode_sel7_eq_reset hr, s.afterEdge, step_eq s, ?_, fun htick => ?_⟩⟩
  · exact registersReset_afterEdge hr
  · obtain ⟨-, hp, -⟩ := registersReset_afterEdge hr
    exact ⟨_, decode_sel7_of_not_prevValid htick hp⟩

/-- Settles O16: the tick selects the TR row of the pair, and that row takes the pair's entry, whichever it is. -/
theorem transitionTick : Obligations.TransitionTick := fun s htick hp =>
  ⟨decode_sel7_of_prevValid htick hp, exec_transitionStep s.prevQ (curQ (samplePins s)) s⟩

/-- Settles O39: the edge completes, PRIME and TR alike, with T's result in the registers and `upd_r` set. -/
theorem tickEdgeTakesT : Obligations.TickEdgeTakesT := fun s htick =>
  ⟨s.afterEdge, step_eq s, afterEdge_tick_eq_tickStep htick, s.afterEdge_updR_iff.mpr htick⟩

/-- Settles O7: the decoder's four rows at the edge, in the rule's order. -/
theorem stepPriority : Obligations.StepPriority :=
  ⟨fun _ => exists_decode_sel7_eq_reset, fun _ => exists_decode_sel7_eq_idle,
    fun _ htick hp => ⟨_, decode_sel7_of_not_prevValid htick hp⟩, fun _ => decode_sel7_of_prevValid⟩

/-- Settles O10: the idle writes are `clearPulses`, and an edge without reset and tick selects them. -/
theorem idleStep : Obligations.IdleStep :=
  ⟨exec_idle, fun _ => exists_decode_sel7_eq_idle⟩

/-- Settles O11: PRIME is a tick's writes with no motion, and a tick with `prev_valid` = 0 selects it. -/
theorem primeStep : Obligations.PrimeStep :=
  ⟨exec_prime, fun _ htick hp => ⟨_, decode_sel7_of_not_prevValid htick hp⟩⟩

/-- Settles O38: T is defined by the rule's own equations. -/
theorem tickStepIsT : Obligations.TickStepIsT := fun _ _ _ => rfl

end Sys2Proof.Proofs.TickMachine

/-!
PROOFS. Exceptions and degraded input (60_exceptions.md R98, R99). What a step kind can write is said once, over the four kinds
of row (`exec_cases`); a tick on a diagonal pair is an ordinary tick edge whose lookup result is fixed.
-/

namespace Sys2Proof.Machine

open Sys2Proof.Stated (TickEdge)

/-- What each step kind writes: a RESET, an IDLE and a PRIME their own writes, a TR row those of a tick with the row's entry. -/
theorem exec_cases (i : Instr) (s : State) :
    (∃ x, i = .reset x ∧ exec i s = .next s.resetRegisters) ∨
    (∃ x, i = .idle x ∧ exec i s = .next s.clearPulses) ∨
    (∃ x, i = .prime x ∧ exec i s = .next (s.takeTick noMotion)) ∨
    (∃ idx, i.entry? = some idx ∧ exec i s = .next (s.takeTick (lut idx))) := by
  cases i with
  | reset x => exact .inl ⟨x, rfl, exec_reset x s⟩
  | idle x => exact .inr (.inl ⟨x, rfl, exec_idle x s⟩)
  | prime x => exact .inr (.inr (.inl ⟨x, rfl, exec_prime x s⟩))
  | _ => exact .inr (.inr (.inr ⟨_, rfl, rfl⟩))

theorem exists_exec_eq_next (i : Instr) (s : State) : ∃ t, exec i s = .next t := by
  obtain ⟨_, _, h⟩ | ⟨_, _, h⟩ | ⟨_, _, h⟩ | ⟨_, _, h⟩ := exec_cases i s <;> exact ⟨_, h⟩

/-- A tick whose sample differs in both channels from a valid previous state reports no motion, with the flag. -/
theorem State.tickResult_of_diagonal {s : State} (hp : s.prevValid = true)
    (hd : s.prevQ ^^^ curQ (samplePins s) = 0b11#2) : s.tickResult = ⟨0b00#2, true⟩ := by
  rw [tickResult_of_prevValid hp]
  exact lut_eq_of_class ((classify_eq_diag_iff _ _).mpr hd)

/-- Such a tick completes with the writes of any tick. -/
theorem step_of_diagonal {s : State} (htick : TickEdge s) (hp : s.prevValid = true)
    (hd : s.prevQ ^^^ curQ (samplePins s) = 0b11#2) : step s = .next (s.takeTick ⟨0b00#2, true⟩).endEdge := by
  obtain ⟨hr, ht⟩ := htick
  rw [step_eq, State.afterEdge_tick hr ht, State.tickResult_of_diagonal hp hd]

end Sys2Proof.Machine

namespace Sys2Proof.Proofs.Exceptions

open Sys2Proof Sys2Proof.Machine

/-- Settles O18: each of the four kinds of row answers a next state, and an edge leaves `afterEdge`. -/
theorem noStepStops : Obligations.NoStepStops :=
  ⟨exists_exec_eq_next, fun s => ⟨s.afterEdge, step_eq s⟩⟩

/-- Settles O48: the diagonal tick stores its sample with `prev_valid` set, so the next tick is a TR from that sample. -/
theorem degradedInputCompletes : Obligations.DegradedInputCompletes := fun _ htick hp hd =>
  ⟨_, step_of_diagonal htick hp hd, rfl, rfl, rfl, rfl, fun hnext =>
    ⟨decode_sel7_of_prevValid hnext rfl, _, step_eq _⟩⟩

end Sys2Proof.Proofs.Exceptions

/-!
PROOFS. The reset sequence (70_reset_and_hazards.md R111). What every edge of a kind keeps holds after a run of listed edges of
that kind (`runEdges_keeps`): so the reset values stand through the further reset edges and through the idle edges after them.
-/

namespace Sys2Proof.Machine

open Sys2Proof.Stated (RegistersReset)

/-- What each edge of a kind keeps is kept by a run over listed edges of that kind, which uses them up. -/
theorem runEdges_keeps {P : State → Prop} {kind : EdgeInput → Prop}
    (hkeep : ∀ s, kind s.input → P s → P s.afterEdge) {es rest : List EdgeInput} (hkind : ∀ e ∈ es, kind e) {s : State}
    (hs : P s) (hin : s.inputs = es ++ rest) : ∃ t, runEdges es.length s = .next t ∧ P t ∧ t.inputs = rest := by
  induction es generalizing s with
  | nil => exact ⟨s, rfl, hs, hin⟩
  | cons e es ih =>
    obtain ⟨he, hes⟩ := List.forall_mem_cons.mp hkind
    rw [List.length_cons, runEdges_succ]
    refine ih hes (hkeep s ?_ hs) ?_
    · rwa [State.input_cons hin]
    · simp [hin]

/-- An idle edge clears the pulses, which are clear already, and touches no other register. -/
theorem registersReset_afterEdge_of_idle {s : State} (hr : s.input.rst = false) (ht : s.input.tick = false)
    (h : RegistersReset s) : RegistersReset s.afterEdge := by
  obtain ⟨hq, hp, -, -, hbtn, hswt, -⟩ := h
  rw [State.afterEdge_idle hr ht]
  exact ⟨hq, hp, rfl, rfl, hbtn, hswt, rfl⟩

/-- One or more listed reset edges, from any state: the first sets the reset values and the others set them again. -/
theorem runEdges_resets {s : State} {resets rest : List EdgeInput} (hne : resets ≠ [])
    (hrst : ∀ r ∈ resets, r.rst = true) (hin : s.inputs = resets ++ rest) :
    ∃ t, runEdges resets.length s = .next t ∧ RegistersReset t ∧ t.inputs = rest := by
  cases resets with
  | nil => exact absurd rfl hne
  | cons r rs =>
    obtain ⟨hr, hrs⟩ := List.forall_mem_cons.mp hrst
    have hfirst : RegistersReset s.afterEdge := registersReset_afterEdge (by rwa [State.input_cons hin])
    rw [List.length_cons, runEdges_succ]
    exact runEdges_keeps (fun _ hedge _ => registersReset_afterEdge hedge) hrs hfirst (by simp [hin])

/-- Listed idle edges keep the reset values. -/
theorem runEdges_idles {s : State} {idles rest : List EdgeInput} (hidle : ∀ i ∈ idles, i.rst = false ∧ i.tick = false)
    (hs : RegistersReset s) (hin : s.inputs = idles ++ rest) :
    ∃ t, runEdges idles.length s = .next t ∧ RegistersReset t ∧ t.inputs = rest :=
  runEdges_keeps (fun _ ⟨hr, ht⟩ => registersReset_afterEdge_of_idle hr ht) hidle hs hin

end Sys2Proof.Machine

namespace Sys2Proof.Proofs.Reset

open Sys2Proof Sys2Proof.Machine Sys2Proof.Stated

/-- Settles O49: the reset edges set the reset values, the idle edges keep them, and the tick then finds `prev_valid` = 0. -/
theorem resetSequence : Obligations.ResetSequence := by
  refine ⟨by decide, fun s resets idles rest e hne hrst hidle her het hin => ?_⟩
  obtain ⟨t, hrun, hreset, hleft⟩ := runEdges_resets hne hrst hin
  obtain ⟨u, hrun', hreset', hleft'⟩ := runEdges_idles hidle hreset hleft
  refine ⟨⟨t, hrun, hreset, hleft⟩, u, ?_, hreset', ?_⟩
  · rw [runEdges_add _ _ s t hrun, hrun']
  · obtain ⟨-, hp, -⟩ := hreset'
    have htick : TickEdge u := by
      rw [TickEdge, State.input_cons hleft']
      exact ⟨her, het⟩
    exact ⟨_, decode_sel7_of_not_prevValid htick hp⟩

end Sys2Proof.Proofs.Reset

/-!
PROOFS. The tick level under the clock level (00_scope.md R7, 42_tick_machine.md R86, R94): one lemma says what the coming edge adds
to the tick-level run (`tickOutputs_edgeEvent_append`), and the refinement is the induction over the edges. The schedule of a host
is then nothing but the list of its events.
-/

namespace Sys2Proof.Machine

open Sys2Proof.Stated (TickEdge)

/-! The event of an edge. -/

theorem edgeEvent_of_reset {s : State} (hr : s.input.rst = true) : edgeEvent s = [.reset] := if_pos hr

theorem edgeEvent_of_idle {s : State} (hr : s.input.rst = false) (ht : s.input.tick = false) : edgeEvent s = [] := by
  simp [edgeEvent, hr, ht]

theorem edgeEvent_of_tick {s : State} (htick : TickEdge s) : edgeEvent s = [.tick (samplePins s)] := by
  simp [edgeEvent, htick]

theorem afterEdge_tickState_of_tick {s : State} (htick : TickEdge s) :
    s.afterEdge.tickState = (tickStep s.tickState (samplePins s)).1 :=
  congrArg Prod.fst (afterEdge_tick_eq_tickStep htick)

theorem afterEdge_tickOutput_of_tick {s : State} (htick : TickEdge s) :
    s.afterEdge.tickOutput = (tickStep s.tickState (samplePins s)).2 :=
  congrArg Prod.snd (afterEdge_tick_eq_tickStep htick)

/-- The tick-level state takes an edge's event to the tick-level view of the state after the edge. -/
theorem tickFinal_edgeEvent_append (s : State) (es : List TickEvent) :
    tickFinal s.tickState (edgeEvent s ++ es) = tickFinal s.afterEdge.tickState es := by
  obtain ⟨hr, h⟩ | ⟨hr, ht, h⟩ | ⟨hr, ht, -⟩ := s.edge_cases
  · rw [edgeEvent_of_reset hr, h]; rfl
  · rw [edgeEvent_of_idle hr ht, h]; rfl
  · rw [edgeEvent_of_tick ⟨hr, ht⟩, afterEdge_tickState_of_tick ⟨hr, ht⟩]; rfl

/-- An edge's event puts out what the registers show after the edge where `upd` = 1, and nothing elsewhere. -/
theorem tickOutputs_edgeEvent_append (s : State) (es : List TickEvent) :
    tickOutputs s.tickState (edgeEvent s ++ es) =
      (if s.afterEdge.updR then [s.afterEdge.tickOutput] else []) ++ tickOutputs s.afterEdge.tickState es := by
  obtain ⟨hr, h⟩ | ⟨hr, ht, h⟩ | ⟨hr, ht, -⟩ := s.edge_cases
  · rw [edgeEvent_of_reset hr, h]; rfl
  · rw [edgeEvent_of_idle hr ht, h]; rfl
  · have htick : TickEdge s := ⟨hr, ht⟩
    rw [edgeEvent_of_tick htick, if_pos (s.afterEdge_updR_iff.mpr htick), afterEdge_tickState_of_tick htick,
      afterEdge_tickOutput_of_tick htick]
    rfl

/-- The registers end in the state of T over the events. -/
theorem runEdges_tickState (k : Nat) (s : State) :
    ∃ t, runEdges k s = .next t ∧ t.tickState = tickFinal s.tickState (eventsOf k s) := by
  induction k generalizing s with
  | zero => exact ⟨s, rfl, rfl⟩
  | succ k ih =>
    rw [runEdges_succ, eventsOf_succ, tickFinal_edgeEvent_append]
    exact ih s.afterEdge

/-- The outputs in the cycles with `upd` = 1 are those of T over the events. -/
theorem outputsOf_filter_upd (k : Nat) (s : State) :
    ((outputsOf k s).filter (·.upd)).map Outputs.ofTick = tickOutputs s.tickState (eventsOf k s) := by
  induction k generalizing s with
  | zero => rfl
  | succ k ih =>
    rw [outputsOf_succ, eventsOf_succ, tickOutputs_edgeEvent_append, ← ih, List.filter_cons]
    have hupd : s.afterEdge.outputs.upd = s.afterEdge.updR := rfl
    have hout : s.afterEdge.outputs.ofTick = s.afterEdge.tickOutput := rfl
    rw [hupd, ← hout]
    split <;> rfl

/-! The events of a listed schedule. -/

/-- The event of an input word whose lines do not change at the edge. -/
def EdgeInput.stableEvent (e : EdgeInput) : List TickEvent :=
  if e.rst then [.reset] else if e.tick then [.tick e.pins] else []

theorem edgeEvent_of_stable {s : State} {e : EdgeInput} {es : List EdgeInput} (hin : s.inputs = e :: es)
    (hstable : e.changing = 0b0000#4) : edgeEvent s = e.stableEvent := by
  rw [edgeEvent, samplePins, State.input_cons hin, EdgeInput.sample_stable hstable, EdgeInput.stableEvent]

theorem eventsOf_of_stable {es rest : List EdgeInput} (hstable : ∀ e ∈ es, e.changing = 0b0000#4) {s : State}
    (hin : s.inputs = es ++ rest) : eventsOf es.length s = es.flatMap EdgeInput.stableEvent := by
  induction es generalizing s with
  | nil => rfl
  | cons e es ih =>
    obtain ⟨he, hes⟩ := List.forall_mem_cons.mp hstable
    rw [List.length_cons, eventsOf_succ, edgeEvent_of_stable hin he, ih hes (by simp [hin]), List.flatMap_cons]

/-- The input words of the boot schedule are stable. -/
theorem bootSchedule_stable (n : Nat) (samples : List PinSample) :
    ∀ e ∈ bootSchedule n samples, e.changing = 0b0000#4 := by
  simp only [bootSchedule, List.mem_cons, List.mem_flatMap, List.mem_replicate]
  rintro e (rfl | ⟨p, -, rfl | ⟨-, rfl⟩⟩) <;> rfl

/-- One tick and the idle edges up to the next one are one event. -/
theorem flatMap_stableEvent_tick (p : PinSample) (m : Nat) :
    (tickEdge p :: List.replicate m idleEdge).flatMap EdgeInput.stableEvent = [.tick p] := by
  have hidle : (List.replicate m idleEdge).flatMap EdgeInput.stableEvent = [] :=
    List.flatMap_eq_nil_iff.mpr fun e he => by rw [List.eq_of_mem_replicate he]; rfl
  rw [List.flatMap_cons, hidle]
  rfl

/-- At any spacing, the boot schedule is a reset and then one tick a sample. -/
theorem bootSchedule_events (n : Nat) (samples : List PinSample) :
    (bootSchedule n samples).flatMap EdgeInput.stableEvent = .reset :: samples.map .tick := by
  rw [bootSchedule, List.flatMap_cons, List.flatMap_assoc, List.map_eq_flatMap]
  simp only [flatMap_stableEvent_tick]
  rfl

/-- T over ticks alone is the run through their samples. -/
theorem tickOutputs_map_tick (ts : TickState) (samples : List PinSample) :
    tickOutputs ts (samples.map .tick) = tickRun ts samples := by
  induction samples generalizing ts with
  | nil => rfl
  | cons p ps ih => rw [List.map_cons, tickOutputs, tickRun, ih]

/-- Booted and ticked at any spacing, the block shows T's outputs on the samples from the reset state. -/
theorem outputsOf_bootSchedule {s : State} {n : Nat} {samples : List PinSample}
    (hin : s.inputs = bootSchedule n samples) :
    ((outputsOf s.inputs.length s).filter (·.upd)).map Outputs.ofTick = tickRun ⟨false, 0b00#2⟩ samples := by
  have hevents : eventsOf s.inputs.length s = .reset :: samples.map .tick := by
    rw [hin, ← bootSchedule_events n]
    exact eventsOf_of_stable (rest := []) (bootSchedule_stable n samples) (by rw [hin, List.append_nil])
  rw [outputsOf_filter_upd, hevents, tickOutputs, tickOutputs_map_tick]

/-! A held tick (R94) and the variant with a whole previous sample (R16). -/

/-- A run of tick edges shows T's outputs on the edges' own samples. -/
theorem outputsOf_of_ticks {es rest : List EdgeInput} (htick : ∀ e ∈ es, e.rst = false ∧ e.tick = true) {s : State}
    (hin : s.inputs = es ++ rest) :
    (outputsOf es.length s).map Outputs.ofTick =
      tickRun s.tickState (es.mapIdx fun j e => e.sample (s.edgeNo + j)) ∧
    ∀ o ∈ outputsOf es.length s, o.upd = true := by
  induction es generalizing s with
  | nil => exact ⟨rfl, nofun⟩
  | cons e es ih =>
    obtain ⟨he, hes⟩ := List.forall_mem_cons.mp htick
    have hedge : TickEdge s := by rwa [TickEdge, State.input_cons hin]
    have hsample : samplePins s = e.sample s.edgeNo := by rw [samplePins, State.input_cons hin]
    have hindex : (fun j (f : EdgeInput) => f.sample (s.afterEdge.edgeNo + j)) =
        fun j f => f.sample (s.edgeNo + (j + 1)) := by
      funext j f
      rw [State.afterEdge_edgeNo, Nat.add_assoc, Nat.add_comm 1 j]
    obtain ⟨houts, hupd⟩ := ih hes (s := s.afterEdge) (by simp [hin])
    rw [hindex, afterEdge_tickState_of_tick hedge, hsample] at houts
    rw [List.length_cons, outputsOf_succ]
    refine ⟨?_, List.forall_mem_cons.mpr ⟨s.afterEdge_updR_iff.mpr hedge, hupd⟩⟩
    have hout : s.afterEdge.outputs.ofTick = s.afterEdge.tickOutput := rfl
    rw [List.map_cons, List.mapIdx_cons, tickRun, houts, hout, afterEdge_tickOutput_of_tick hedge, hsample]
    rfl

/-- Of the whole previous sample only its quadrature state is read. -/
theorem wideTickRun_eq (v : Bool) (prev : PinSample) (samples : List PinSample) :
    wideTickRun ⟨v, prev⟩ samples = tickRun ⟨v, curQ prev⟩ samples := by
  induction samples generalizing v prev with
  | nil => rfl
  | cons p ps ih =>
    have hout : (wideTickStep ⟨v, prev⟩ p).2 = (tickStep ⟨v, curQ prev⟩ p).2 := rfl
    rw [wideTickRun, tickRun, hout]
    exact congrArg _ (ih true p)

end Sys2Proof.Machine

namespace Sys2Proof.Proofs.TickLevel

open Sys2Proof Sys2Proof.Machine

/-- Settles O40: the simulation of one edge, along the run, for the registers and for the outputs. -/
theorem clockLevelRefinesTickLevel : Obligations.ClockLevelRefinesTickLevel := fun k s => by
  obtain ⟨t, hrun, hstate⟩ := runEdges_tickState k s
  exact ⟨t, hrun, hstate, outputsOf_filter_upd k s⟩

/-- Settles O41: the schedule's events are the same at every spacing, so at that of the periods. -/
theorem tickOutputsIndependentOfPeriods : Obligations.TickOutputsIndependentOfPeriods := fun _ _ _ _ hin =>
  outputsOf_bootSchedule hin

/-- Settles O42: every edge of the run is a tick on its own sample. -/
theorem heldTickIsRepeatedTicks : Obligations.HeldTickIsRepeatedTicks := fun _ _ _ hin htick =>
  outputsOf_of_ticks htick hin

/-- Settles O43: the two machines run in step, the quadrature state of the stored sample being the stored state. -/
theorem wholePreviousSampleIsEquivalent : Obligations.WholePreviousSampleIsEquivalent := wideTickRun_eq

end Sys2Proof.Proofs.TickLevel

/-!
PROOFS. The table as a whole (41_transition_lookup.md R78 to R81, 70_reset_and_hazards.md R115, R118). Every entry is the result of
the move between the positions of its two states (`lut_eq_resultOfMove`): so its sign, its reversal and what a longer move
reports are facts about the move modulo 4.
-/

namespace Sys2Proof.Machine

/-! The classes and codes (R46, R47, R48). -/

theorem classify_eq_hold_iff (p c : QState) : classify p c = .hold ↔ c = p := by
  revert p c; decide

theorem classify_eq_cw_iff (p c : QState) : classify p c = .cw ↔ c = nextCw p := by
  revert p c; decide

theorem classify_eq_ccw_iff (p c : QState) : classify p c = .ccw ↔ c = nextCcw p := by
  revert p c; decide

/-- A change of both channels leads to the complement. -/
theorem xor_eq_both_iff_eq_xor (p c : QState) : p ^^^ c = 0b11#2 ↔ c = p ^^^ 0b11#2 := by
  revert p c; decide

/-- The indices of each class (R46). -/
theorem classify_iff_index (p c : QState) :
    (classify p c = .hold ↔ (p ++ c).toNat ∈ [0, 5, 10, 15]) ∧ (classify p c = .cw ↔ (p ++ c).toNat ∈ [1, 7, 8, 14]) ∧
    (classify p c = .ccw ↔ (p ++ c).toNat ∈ [2, 4, 11, 13]) ∧ (classify p c = .diag ↔ (p ++ c).toNat ∈ [3, 6, 9, 12]) := by
  revert p c; decide

/-- The one code a consumer refuses is the reserved one. -/
theorem RotationDelta.ofCode_eq_none_iff (c : DeltaCode) : ofCode c = none ↔ c = 0b10#2 := by
  revert c; decide

/-- The signed reading of a code is the value it stands for. -/
theorem sext_code (d : RotationDelta) : sext d.code = d.value := by
  cases d <;> rfl

/-- A counter of any width that adds the extended code adds the value. -/
theorem signExtend_code (n : Nat) (d : RotationDelta) : d.code.signExtend n = BitVec.ofInt n d.value :=
  congrArg (BitVec.ofInt n) (sext_code d)

/-! The closed forms (R80, R81). -/

theorem phiForm_eq_lut (prev cur : QState) : phiForm prev cur = lut (lutIndex prev cur) := by
  revert prev cur; decide

theorem bitForm_eq_lut (prev cur : QState) : bitForm prev cur = lut (lutIndex prev cur) := by
  revert prev cur; decide

/-- An entry is the result of the move between the positions of its two states. -/
theorem lut_eq_resultOfMove (prev cur : QState) : lut (lutIndex prev cur) = resultOfMove (phi cur - phi prev) :=
  (phiForm_eq_lut prev cur).symm

theorem bitForm_of_hold {prev cur : QState} (h : prev ^^^ cur = 0b00#2) : bitForm prev cur = ⟨0b00#2, false⟩ :=
  if_pos h

theorem bitForm_of_diag {prev cur : QState} (h : prev ^^^ cur = 0b11#2) : bitForm prev cur = ⟨0b00#2, true⟩ := by
  simp [bitForm, h]

theorem bitForm_of_oneBit {prev cur : QState} (h : prev ^^^ cur = 0b01#2 ∨ prev ^^^ cur = 0b10#2) :
    bitForm prev cur = ⟨if prev.getLsbD 0 = cur.getLsbD 1 then 0b01#2 else 0b11#2, false⟩ := by
  have hne : prev ^^^ cur ≠ 0b00#2 ∧ prev ^^^ cur ≠ 0b11#2 := by
    obtain h | h := h <;> rw [h] <;> decide
  obtain ⟨hhold, hdiag⟩ := hne
  simp only [bitForm, if_neg hhold, if_neg hdiag]
  split <;> rfl

/-! Reversed transitions (R79, R118). -/

/-- The move back reports the opposite, with the same flag. -/
theorem resultOfMove_neg (d : BitVec 2) :
    sext (resultOfMove (-d)).delta = - sext (resultOfMove d).delta ∧ (resultOfMove (-d)).amb = (resultOfMove d).amb := by
  revert d; decide

theorem lut_reverse (p c : QState) :
    sext (lut (lutIndex c p)).delta = - sext (lut (lutIndex p c)).delta ∧
    (lut (lutIndex c p)).amb = (lut (lutIndex p c)).amb := by
  have hback : phi p - phi c = -(phi c - phi p) := (neg_sub _ _).symm
  rw [lut_eq_resultOfMove c p, lut_eq_resultOfMove p c, hback]
  exact resultOfMove_neg _

/-- A change of one channel is a step, one way or the other, without the flag. -/
theorem lut_of_oneBit {q r : QState} (h : q ^^^ r = 0b01#2 ∨ q ^^^ r = 0b10#2) :
    (sext (lut (lutIndex q r)).delta = 1 ∨ sext (lut (lutIndex q r)).delta = -1) ∧ (lut (lutIndex q r)).amb = false := by
  rw [← bitForm_eq_lut, bitForm_of_oneBit h]
  refine ⟨?_, rfl⟩
  by_cases hdir : q.getLsbD 0 = r.getLsbD 1
  · exact .inl (by rw [if_pos hdir]; rfl)
  · exact .inr (by rw [if_neg hdir]; rfl)

/-! Moves along the cycle (R115 to R117). -/

/-- A net move adds its length to the position in the cycle. -/
theorem phi_moveSteps (q : QState) (m : Int) : phi (moveSteps q m) = phi q + BitVec.ofInt 2 m := by
  cases m with
  | ofNat n => rw [moveSteps, phi_times_nextCw, Int.ofNat_eq_natCast, BitVec.ofInt_natCast]
  | negSucc n =>
    rw [moveSteps, phi_times_nextCcw, Int.negSucc_eq, ← Int.natCast_succ, BitVec.ofInt_neg, BitVec.ofInt_natCast,
      sub_eq_add_neg]

/-- What the table answers for a net move from any state. -/
theorem lut_moveSteps (q : QState) (m : Int) :
    lut (lutIndex q (moveSteps q m)) = resultOfMove (BitVec.ofInt 2 m) := by
  rw [lut_eq_resultOfMove, phi_moveSteps, add_sub_cancel_left]

/-- What the table answers between two positions of the encoder. -/
theorem lut_encoderState (pos next : Int) :
    lut (lutIndex (encoderState pos) (encoderState next)) = resultOfMove (BitVec.ofInt 2 (next - pos)) := by
  rw [lut_eq_resultOfMove, encoderState, encoderState, phi_moveSteps, phi_moveSteps, add_sub_add_left_eq_sub,
    sub_eq_add_neg, sub_eq_add_neg, BitVec.ofInt_add, BitVec.ofInt_neg]

/-- A move is seen modulo 4 only. -/
theorem ofInt_two_of_emod {m r : Int} (h : m % 4 = r) : BitVec.ofInt 2 m = BitVec.ofInt 2 r := by
  apply BitVec.eq_of_toNat_eq
  subst h
  simp

/-- The report of a move is that of its residue. -/
theorem resultOfMove_of_emod {m r : Int} {d : DeltaCode} {a : Bool} (h : m % 4 = r)
    (hr : resultOfMove (BitVec.ofInt 2 r) = ⟨d, a⟩) :
    (resultOfMove (BitVec.ofInt 2 m)).delta = d ∧ (resultOfMove (BitVec.ofInt 2 m)).amb = a := by
  rw [ofInt_two_of_emod h, hr]
  exact ⟨rfl, rfl⟩

/-- A move of at most one step is reported as it is. -/
theorem resultOfMove_of_step {m : Int} (h : m = -1 ∨ m = 0 ∨ m = 1) :
    sext (resultOfMove (BitVec.ofInt 2 m)).delta = m ∧ (resultOfMove (BitVec.ofInt 2 m)).amb = false := by
  obtain rfl | rfl | rfl := h <;> decide

/-- No report is of more than one step. -/
theorem sext_resultOfMove (d : BitVec 2) :
    sext (resultOfMove d).delta = -1 ∨ sext (resultOfMove d).delta = 0 ∨ sext (resultOfMove d).delta = 1 := by
  revert d; decide

/-- The report is the move for moves of at most one step, and for no others. -/
theorem resultOfMove_exact_iff (m : Int) :
    (sext (resultOfMove (BitVec.ofInt 2 m)).delta = m ∧ (resultOfMove (BitVec.ofInt 2 m)).amb = false) ↔
      m = -1 ∨ m = 0 ∨ m = 1 := by
  refine ⟨fun ⟨hexact, _⟩ => ?_, resultOfMove_of_step⟩
  have hsmall := sext_resultOfMove (BitVec.ofInt 2 m)
  rwa [hexact] at hsmall

end Sys2Proof.Machine

namespace Sys2Proof.Proofs.Table

open Sys2Proof Sys2Proof.Machine

/-- Settles O29: each class by its condition, and the index lists over the sixteen pairs. -/
theorem transitionClasses : Obligations.TransitionClasses :=
  ⟨fun p c => ⟨classify_eq_hold_iff p c, classify_eq_cw_iff p c, classify_eq_ccw_iff p c,
    (classify_eq_diag_iff p c).trans (xor_eq_both_iff_eq_xor p c)⟩, classify_iff_index⟩

/-- Settles O30: the values and codes by definition, the two readings of a code, and sign extension through the signed one. -/
theorem deltaPortCode : Obligations.DeltaPortCode :=
  ⟨rfl, rfl, rfl, rfl, rfl, rfl, RotationDelta.ofCode_eq_none_iff, fun d => ⟨RotationDelta.ofCode_code d, sext_code d⟩,
    fun n position d => congrArg (position + ·) (signExtend_code n d)⟩

/-- Settles O32: the four counts over the sixteen pairs, and a flagged entry reports no motion. -/
theorem tablePartition : Obligations.TablePartition :=
  ⟨by decide, by decide, by decide, by decide, lut_delta_of_amb⟩

/-- Settles O33: the reversed transition is the opposite move. -/
theorem tableAntisymmetry : Obligations.TableAntisymmetry := fun p c => lut_reverse c p

/-- Settles O34: the four positions, and the entry as the result of the difference of positions. -/
theorem tableByCyclePosition : Obligations.TableByCyclePosition := by
  refine ⟨rfl, rfl, rfl, rfl, fun prev cur => ⟨?_, ?_, ?_, ?_, phiForm_eq_lut prev cur⟩⟩ <;>
    exact fun hmove => (lut_eq_resultOfMove prev cur).trans (by rw [hmove]; rfl)

/-- Settles O35: the branches of the form by bits, which is the table. -/
theorem tableByBits : Obligations.TableByBits := fun prev cur =>
  have hform : lut (prev ++ cur) = bitForm prev cur := (bitForm_eq_lut prev cur).symm
  ⟨fun h => hform.trans (bitForm_of_hold h), fun h => hform.trans (bitForm_of_diag h),
    fun h => hform.trans (bitForm_of_oneBit h), hform.symm⟩

/-- Settles O37: the way out is a step without flag, and the way back its opposite with the same flag. -/
theorem bounceCancels : Obligations.BounceCancels := fun q r h => by
  obtain ⟨hstep, hamb⟩ := lut_of_oneBit h
  obtain ⟨hback, hambBack⟩ := lut_reverse q r
  exact ⟨add_eq_zero_iff_neg_eq.mpr hback.symm, hstep, hamb, hambBack.trans hamb⟩

/-- Settles O46: the tick's result is that of the move modulo 4. -/
theorem largerMoves : Obligations.LargerMoves := by
  intro s m htick hp hcur
  have hresult : s.tickResult = resultOfMove (BitVec.ofInt 2 m) := by
    have hq : curQ (samplePins s) = moveSteps s.prevQ m := hcur
    rw [State.tickResult_of_prevValid hp, hq, lut_moveSteps]
  refine ⟨s.afterEdge, step_eq s, ?_⟩
  rw [State.afterEdge_deltaR, if_pos htick, State.afterEdge_ambR, if_pos htick, hresult]
  refine ⟨fun h => resultOfMove_of_emod h rfl, fun h => resultOfMove_of_emod h rfl, fun h => resultOfMove_of_emod h rfl,
    fun h => resultOfMove_of_emod h rfl, resultOfMove_exact_iff m, ?_, ?_, ?_⟩
  · rintro rfl; decide
  · rintro rfl; decide
  · rintro (rfl | rfl) <;> decide

end Sys2Proof.Proofs.Table

/-!
PROOFS. What the consumer counts (42_tick_machine.md R97, 60_exceptions.md R101, 70_reset_and_hazards.md R114). An edge is a TR tick
that shows its entry's result, or it shows none (`State.edge_motion_cases`): so each edge shows the motion and the flag of its
step kind. Under the sampling-rate premise the sum of T's deltas telescopes along the encoder's positions.
-/

namespace Sys2Proof.Machine

open Sys2Proof.Safety (SamplingPremise)
open Sys2Proof.Stated (TickEdge)

/-! One edge. -/

/-- An edge is a TR tick with its entry's result, or it takes no entry and shows neither motion nor flag. -/
theorem State.edge_motion_cases (s : State) :
    (∃ p c, decode (sel7 s) = transitionStep p c ∧ s.afterEdge.deltaR = (lut (lutIndex p c)).delta ∧
      s.afterEdge.ambR = (lut (lutIndex p c)).amb) ∨
    ((decode (sel7 s)).entry? = none ∧ s.afterEdge.deltaR = 0b00#2 ∧ s.afterEdge.ambR = false) := by
  obtain ⟨hr, h⟩ | ⟨hr, ht, h⟩ | ⟨hr, ht, h⟩ := s.edge_cases
  · obtain ⟨x, hstep⟩ := exists_decode_sel7_eq_reset hr
    exact .inr ⟨by rw [hstep]; rfl, by rw [h]; rfl, by rw [h]; rfl⟩
  · obtain ⟨x, hstep⟩ := exists_decode_sel7_eq_idle hr ht
    exact .inr ⟨by rw [hstep]; rfl, by rw [h]; rfl, by rw [h]; rfl⟩
  · rw [h]
    cases hp : s.prevValid with
    | false =>
      rw [decode_sel7_of_not_prevValid ⟨hr, ht⟩ hp, tickResult_of_not_prevValid hp]
      exact .inr ⟨rfl, rfl, rfl⟩
    | true =>
      rw [decode_sel7_of_prevValid ⟨hr, ht⟩ hp, tickResult_of_prevValid hp]
      exact .inl ⟨_, _, rfl, rfl, rfl⟩

theorem stepMotion_transitionStep (p c : QState) : stepMotion (transitionStep p c) = (classify p c).rotation.value := by
  revert p c; decide

theorem isDiagonal_transitionStep (p c : QState) : isDiagonal (transitionStep p c) = (classify p c == .diag) := by
  revert p c; decide

/-- The motion of the step kind taken is what the edge shows. -/
theorem stepMotion_decode_sel7 (s : State) : stepMotion (decode (sel7 s)) = sext s.afterEdge.deltaR := by
  obtain ⟨p, c, hstep, hdelta, -⟩ | ⟨hentry, hdelta, -⟩ := s.edge_motion_cases
  · rw [hstep, hdelta, stepMotion_transitionStep, lut_delta, sext_code]
  · rw [stepMotion, hentry, hdelta]
    rfl

/-- The step kind taken is a diagonal TR exactly where the edge shows the flag. -/
theorem isDiagonal_decode_sel7 (s : State) : isDiagonal (decode (sel7 s)) = s.afterEdge.ambR := by
  obtain ⟨p, c, hstep, -, hamb⟩ | ⟨hentry, -, hamb⟩ := s.edge_motion_cases
  · rw [hstep, hamb, isDiagonal_transitionStep, Bool.eq_iff_iff, beq_iff_eq, classify_eq_diag_iff, lut_amb_iff]
  · rw [isDiagonal, hentry, hamb]

/-- Without a tick an edge leaves the pulses clear. -/
theorem pulsesClear_of_not_upd (s : State) (h : s.afterEdge.updR = false) :
    s.afterEdge.deltaR = 0b00#2 ∧ s.afterEdge.ambR = false := by
  have hno : ¬ TickEdge s := fun htick => Bool.false_ne_true (h.symm.trans (s.afterEdge_updR_iff.mpr htick))
  rw [State.afterEdge_deltaR, State.afterEdge_ambR, if_neg hno, if_neg hno]
  exact ⟨rfl, rfl⟩

/-! Whole runs. -/

/-- What holds of the outputs after every edge holds of all outputs of a run. -/
theorem forall_mem_outputsOf {P : Outputs → Prop} (hedge : ∀ s : State, P s.afterEdge.outputs) (k : Nat) (s : State) :
    ∀ o ∈ outputsOf k s, P o := by
  induction k generalizing s with
  | zero => nofun
  | succ k ih =>
    rw [outputsOf_succ]
    exact List.forall_mem_cons.mpr ⟨hedge s, ih s.afterEdge⟩

/-- A cycle of a run without `upd` shows neither motion nor flag. -/
theorem outputsOf_pulsesClear (k : Nat) (s : State) :
    ∀ o ∈ outputsOf k s, o.upd = false → o.delta = 0b00#2 ∧ o.amb = false :=
  forall_mem_outputsOf pulsesClear_of_not_upd k s

/-- Cycles without `upd` add nothing to the count. -/
theorem countWhenUpd_eq_countEveryCycle {outs : List Outputs} (hclear : ∀ o ∈ outs, o.upd = false → o.delta = 0b00#2) :
    countWhenUpd outs = countEveryCycle outs := by
  induction outs with
  | nil => rfl
  | cons o os ih =>
    obtain ⟨ho, hos⟩ := List.forall_mem_cons.mp hclear
    rw [countEveryCycle_cons, ← ih hos, countWhenUpd, countWhenUpd, List.filter_cons]
    cases hu : o.upd with
    | true => rfl
    | false => rw [ho hu]; exact (zero_add _).symm

theorem countWhenUpd_outputsOf (k : Nat) (s : State) :
    countWhenUpd (outputsOf k s) = countEveryCycle (outputsOf k s) :=
  countWhenUpd_eq_countEveryCycle fun o ho hu => (outputsOf_pulsesClear k s o ho hu).1

theorem countEveryCycle_outputsOf (k : Nat) (s : State) :
    countEveryCycle (outputsOf k s) = ((stepsOf k s).map stepMotion).sum := by
  induction k generalizing s with
  | zero => rfl
  | succ k ih =>
    rw [outputsOf_succ, stepsOf_succ, countEveryCycle_cons, List.map_cons, List.sum_cons, stepMotion_decode_sel7, ih]
    rfl

theorem countAmb_outputsOf (k : Nat) (s : State) : countAmb (outputsOf k s) = (stepsOf k s).countP isDiagonal := by
  induction k generalizing s with
  | zero => rfl
  | succ k ih =>
    rw [outputsOf_succ, stepsOf_succ, countAmb_cons, List.countP_cons, isDiagonal_decode_sel7, ih]
    rfl

/-! The count under the sampling-rate premise (R114). -/

/-- The tick-level count: the sum of the deltas of T's outputs. -/
def tickMotion (outs : List TickOutput) : Int := (outs.map fun o => sext o.delta).sum

/-- The consumer's count is the tick-level count of the cycles with `upd` = 1. -/
theorem countWhenUpd_eq_tickMotion (outs : List Outputs) :
    countWhenUpd outs = tickMotion ((outs.filter (·.upd)).map Outputs.ofTick) := by
  rw [tickMotion, List.map_map]
  rfl

/-- Where no tick shows the flag, no cycle of the run does. -/
theorem countAmb_outputsOf_eq_zero {k : Nat} {s : State}
    (htick : ∀ o ∈ ((outputsOf k s).filter (·.upd)).map Outputs.ofTick, o.amb = false) :
    countAmb (outputsOf k s) = 0 := by
  refine List.countP_eq_zero.mpr fun o ho => ?_
  rw [Bool.not_eq_true]
  cases hu : o.upd with
  | false => exact (outputsOf_pulsesClear k s o ho hu).2
  | true => exact htick o.ofTick (List.mem_map_of_mem (List.mem_filter.mpr ⟨ho, hu⟩))

/-- One tick of an encoder that moved at most one step: its report is the move, without the flag. -/
theorem tickStep_encoder {pos next : Int} (hstep : next - pos = -1 ∨ next - pos = 0 ∨ next - pos = 1) {p : PinSample}
    (hp : curQ p = encoderState next) :
    (tickStep ⟨true, encoderState pos⟩ p).1 = ⟨true, encoderState next⟩ ∧
    sext (tickStep ⟨true, encoderState pos⟩ p).2.delta = next - pos ∧
    (tickStep ⟨true, encoderState pos⟩ p).2.amb = false := by
  simp only [tickStep, hp, if_true, lut_encoderState, true_and]
  exact resultOfMove_of_step hstep

/-- From a known position on, ticks under the premise report the whole net motion and never the flag. -/
theorem tickRun_encoder {samples : List PinSample} {later : List Int}
    (hsamples : List.Forall₂ (fun p pos => curQ p = encoderState pos) samples later) {pos : Int}
    (hpremise : SamplingPremise (pos :: later)) :
    tickMotion (tickRun ⟨true, encoderState pos⟩ samples) = later.getLastD pos - pos ∧
    ∀ o ∈ tickRun ⟨true, encoderState pos⟩ samples, o.amb = false := by
  induction hsamples generalizing pos with
  | nil => exact ⟨(Int.sub_self pos).symm, nofun⟩
  | @cons p next ps later hp _ ih =>
    obtain ⟨hlow, hhigh, hrest⟩ := hpremise
    obtain ⟨hstate, hdelta, hamb⟩ := tickStep_encoder (pos := pos) (next := next) (by omega) hp
    obtain ⟨hmotion, hflags⟩ := ih hrest
    rw [tickRun, hstate, List.getLastD_cons]
    refine ⟨?_, List.forall_mem_cons.mpr ⟨hamb, hflags⟩⟩
    rw [tickMotion, List.map_cons, List.sum_cons, ← tickMotion, hdelta, hmotion]
    omega

/-- From a reset on, the first tick only takes up the encoder's position. -/
theorem tickRun_reset_encoder {samples : List PinSample} {start : Int} {later : List Int}
    (hsamples : List.Forall₂ (fun p pos => curQ p = encoderState pos) samples (start :: later))
    (hpremise : SamplingPremise (start :: later)) :
    tickMotion (tickRun ⟨false, 0b00#2⟩ samples) = later.getLastD start - start ∧
    ∀ o ∈ tickRun ⟨false, 0b00#2⟩ samples, o.amb = false := by
  obtain _ | @⟨p, _, ps, _, hp, hps⟩ := hsamples
  obtain ⟨hmotion, hflags⟩ := tickRun_encoder hps hpremise
  have hfirst : (tickStep ⟨false, 0b00#2⟩ p).1 = ⟨true, encoderState start⟩ := congrArg (TickState.mk true) hp
  rw [tickRun, hfirst]
  refine ⟨?_, List.forall_mem_cons.mpr ⟨rfl, hflags⟩⟩
  rw [tickMotion, List.map_cons, List.sum_cons, ← tickMotion, hmotion]
  exact zero_add _

end Sys2Proof.Machine

namespace Sys2Proof.Proofs.Counting

open Sys2Proof Sys2Proof.Machine

/-- Settles O44: every cycle shows its step's motion, and cycles without `upd` show none. -/
theorem accumulationLaw : Obligations.AccumulationLaw := fun k s =>
  ⟨countEveryCycle_outputsOf k s, (countWhenUpd_outputsOf k s).trans (countEveryCycle_outputsOf k s)⟩

/-- Settles O45: a cycle shows the flag exactly when its step is a diagonal TR. -/
theorem ambCyclesAreDiagonalTicks : Obligations.AmbCyclesAreDiagonalTicks := countAmb_outputsOf

/-- Settles O47: the run shows T's outputs on the samples, whose deltas add up to the encoder's net motion. -/
theorem countsCorrectUnderPremise : Obligations.CountsCorrectUnderPremise := by
  intro s n start later samples hpremise _ hsamples hin
  obtain ⟨hmotion, hflags⟩ := tickRun_reset_encoder hsamples hpremise
  have houts := outputsOf_bootSchedule hin
  refine ⟨?_, countAmb_outputsOf_eq_zero (by rwa [houts])⟩
  rw [← countWhenUpd_outputsOf, countWhenUpd_eq_tickMotion, houts, hmotion]

end Sys2Proof.Proofs.Counting

/-!
PROOFS. The sample, `prev_q`, and what every edge keeps (40_sampler.md R55, R60; 10_state.md R14; 30_encoding.md R51; 41 R84; 60 R103).
While `prev_valid` = 0 the value of `prev_q` reaches nothing but itself (`afterEdge_stalePrevQ`).
-/

namespace Sys2Proof.Machine

open Sys2Proof.Safety (StateInv)
open Sys2Proof.Stated (TickEdge)

/-! The sample (R55, R60). -/

theorem EdgeInput.sample_getLsbD (e : EdgeInput) (n : Nat) {i : Nat} (hi : i < 4) :
    (e.sample n).getLsbD i = e.line n i := by
  obtain ⟨h0, h1, h2, h3⟩ := fourLines_bits (e.line n 0) (e.line n 1) (e.line n 2) (e.line n 3)
  match i, hi with
  | 0, _ => exact h0
  | 1, _ => exact h1
  | 2, _ => exact h2
  | 3, _ => exact h3

/-- Words that agree in a field agree in each bit of it. -/
theorem getLsbD_congr_of_extractLsb'_eq {w start len : Nat} {p q : BitVec w}
    (h : p.extractLsb' start len = q.extractLsb' start len) {i : Nat} (hi : i < len) :
    p.getLsbD (start + i) = q.getLsbD (start + i) := by
  have hbit : (p.extractLsb' start len).getLsbD i = (q.extractLsb' start len).getLsbD i := by rw [h]
  simpa [hi] using hbit

/-- The bit tests read the level field of a sample alone. -/
theorem levels_congr {p q : PinSample} (h : p.extractLsb' 2 2 = q.extractLsb' 2 2) :
    buttonPressed p = buttonPressed q ∧ switchOn p = switchOn q :=
  ⟨getLsbD_congr_of_extractLsb'_eq h (i := 0) (by decide), getLsbD_congr_of_extractLsb'_eq h (i := 1) (by decide)⟩

/-- The lookup result of a tick reads the previous state and the rotation field of the sample alone. -/
theorem State.tickResult_congr {s t : State} (hp : s.prevValid = t.prevValid) (hq : s.prevQ = t.prevQ)
    (hc : curQ (samplePins s) = curQ (samplePins t)) : s.tickResult = t.tickResult := by
  rw [tickResult, tickResult, hp, hq, hc]

/-- So does the selector word, beside `rst` and `tick`. -/
theorem sel7_congr {s t : State} (hp : s.prevValid = t.prevValid) (hq : s.prevQ = t.prevQ)
    (hr : s.input.rst = t.input.rst) (ht : s.input.tick = t.input.tick)
    (hc : curQ (samplePins s) = curQ (samplePins t)) : sel7 s = sel7 t := by
  rw [sel7, sel7, hp, hq, hr, ht, hc]

/-- And so do the pulses after the edge. -/
theorem afterEdge_motion_congr {s t : State} (hp : s.prevValid = t.prevValid) (hq : s.prevQ = t.prevQ)
    (hr : s.input.rst = t.input.rst) (ht : s.input.tick = t.input.tick)
    (hc : curQ (samplePins s) = curQ (samplePins t)) :
    s.afterEdge.deltaR = t.afterEdge.deltaR ∧ s.afterEdge.ambR = t.afterEdge.ambR := by
  simp only [State.afterEdge_deltaR, State.afterEdge_ambR, TickEdge, hr, ht, State.tickResult_congr hp hq hc, and_self]

/-! `prev_q` (R14). -/

theorem State.afterEdge_prevQ (s : State) :
    s.afterEdge.prevQ = if s.input.rst then 0b00#2 else if s.input.tick then curQ (samplePins s) else s.prevQ := by
  obtain ⟨hr, h⟩ | ⟨hr, ht, h⟩ | ⟨hr, ht, h⟩ := s.edge_cases <;> simp [*]

/-- A first tick leaves the same state whatever `prev_q` holds. -/
theorem afterEdge_stalePrevQ_of_tick {s : State} (q : QState) (hp : s.prevValid = false) (htick : TickEdge s) :
    { s with prevQ := q }.afterEdge = s.afterEdge := by
  obtain ⟨hr, ht⟩ := htick
  rw [State.afterEdge_tick hr ht, State.afterEdge_tick (s := { s with prevQ := q }) hr ht,
    State.tickResult_of_not_prevValid hp, State.tickResult_of_not_prevValid (s := { s with prevQ := q }) hp]
  rfl

/-- While `prev_valid` = 0, an edge forgets `prev_q`, or it is an idle edge, which keeps it and `prev_valid` = 0. -/
theorem afterEdge_stalePrevQ {s : State} (q : QState) (hp : s.prevValid = false) :
    { s with prevQ := q }.afterEdge = s.afterEdge ∨
    (s.afterEdge.prevValid = false ∧ { s with prevQ := q }.afterEdge = { s.afterEdge with prevQ := q }) := by
  obtain ⟨hr, h⟩ | ⟨hr, ht, h⟩ | ⟨hr, ht, -⟩ := s.edge_cases
  · rw [h, State.afterEdge_reset (s := { s with prevQ := q }) hr]
    exact .inl rfl
  · rw [h, State.afterEdge_idle (s := { s with prevQ := q }) hr ht]
    exact .inr ⟨hp, rfl⟩
  · exact .inl (afterEdge_stalePrevQ_of_tick q hp ⟨hr, ht⟩)

/-- So no output of any run shows it. -/
theorem outputsOf_stalePrevQ (k : Nat) {s : State} (q : QState) (hp : s.prevValid = false) :
    outputsOf k { s with prevQ := q } = outputsOf k s := by
  induction k generalizing s with
  | zero => rfl
  | succ k ih =>
    rw [outputsOf_succ, outputsOf_succ]
    obtain h | ⟨hp', h⟩ := afterEdge_stalePrevQ q hp
    · rw [h]
    · rw [h, ih hp']
      rfl

/-! What every edge keeps (R51, R84). -/

/-- A flagged tick reports no motion. -/
theorem State.tickResult_delta_of_amb {s : State} (h : s.tickResult.amb = true) : s.tickResult.delta = 0b00#2 := by
  cases hp : s.prevValid with
  | false => rw [tickResult_of_not_prevValid hp]; rfl
  | true => rw [tickResult_of_prevValid hp] at h ⊢; exact lut_delta_of_amb _ h

/-- From any state, no edge writes the reserved code. -/
theorem afterEdge_deltaR_ne_reserved (s : State) : s.afterEdge.deltaR ≠ 0b10#2 := by
  rw [State.afterEdge_deltaR]
  split
  · obtain h | h | h := s.tickResult_delta_legal <;> rw [h] <;> decide
  · decide

/-- From any state, an edge that raises the flag reports no motion. -/
theorem afterEdge_deltaR_of_ambR {s : State} (h : s.afterEdge.ambR = true) : s.afterEdge.deltaR = 0b00#2 := by
  rw [State.afterEdge_ambR] at h
  rw [State.afterEdge_deltaR]
  split at h
  · next htick => rw [if_pos htick]; exact State.tickResult_delta_of_amb h
  · next hno => rw [if_neg hno]

/-- An edge after which `prev_valid` is 0 was a reset edge, or an idle edge in a state that had it at 0 already: every register
holds its reset value. -/
theorem stateInv_afterEdge {s : State} (h : StateInv s) : StateInv s.afterEdge := by
  obtain ⟨-, -, -, hfresh⟩ := h
  refine ⟨afterEdge_deltaR_ne_reserved s, afterEdge_deltaR_of_ambR, pulsesClear_of_not_upd s, fun hp => ?_⟩
  obtain ⟨-, h⟩ | ⟨-, -, h⟩ | ⟨-, -, h⟩ := s.edge_cases
  · rw [h]
    exact ⟨rfl, rfl, rfl, rfl, rfl, rfl⟩
  · rw [h] at hp ⊢
    obtain ⟨hq, -, -, hbtn, hswt, -⟩ := hfresh hp
    exact ⟨hq, rfl, rfl, hbtn, hswt, rfl⟩
  · rw [h] at hp
    exact Bool.noConfusion hp

end Sys2Proof.Machine

namespace Sys2Proof.Proofs.Invariants

open Sys2Proof Sys2Proof.Machine Sys2Proof.Stated

/-- Settles O52: the first three clauses hold after any edge, the fourth by the kind of edge. -/
theorem everyEdgeKeepsInvariant : Obligations.EveryEdgeKeepsInvariant := fun s t hinv hstep => by
  rw [eq_afterEdge_of_step hstep]
  exact stateInv_afterEdge hinv

/-- Settles O51: every register of `State.reset` is a literal. -/
theorem resetMeetsInvariant : Obligations.ResetMeetsInvariant := by
  unfold Obligations.ResetMeetsInvariant
  decide

/-- Settles O53: after any edge the delta is a legal code, and 0b00 where the flag is set. -/
theorem reservedCodeNeverWritten : Obligations.ReservedCodeNeverWritten := fun s t hstep => by
  rw [eq_afterEdge_of_step hstep]
  exact ⟨afterEdge_deltaR_ne_reserved s, afterEdge_deltaR_of_ambR⟩

/-- Settles O55: an edge forgets `prev_q` or is idle and shows nothing of it. -/
theorem stalePrevQNeverSeen : Obligations.StalePrevQNeverSeen := fun k _ q hp => outputsOf_stalePrevQ k q hp

/-- Settles O20: the register's equation, the output ports, and the first tick's independence of it. -/
theorem prevQRegister : Obligations.PrevQRegister := by
  refine ⟨fun s t hstep => ?_, fun _ _ => rfl, fun s q htick hp => ?_⟩
  · rw [eq_afterEdge_of_step hstep]
    exact s.afterEdge_prevQ
  · rw [step_eq, step_eq, afterEdge_stalePrevQ_of_tick q hp htick]

/-- Settles O25: each bit of the sample is its line, and stable lines are the driven ones. -/
theorem sampleIsDrivenOrDrawn : Obligations.SampleIsDrivenOrDrawn := fun s =>
  ⟨fun _ hi => s.input.sample_getLsbD s.edgeNo hi, fun hstable => EdgeInput.sample_stable hstable _⟩

/-- Settles O27: the selector word and the pulses read the rotation field alone, the bit tests the level field alone. -/
theorem fieldIndependence : Obligations.FieldIndependence := by
  refine ⟨fun s t s' t' hp hq hr ht hc hs hs' => ?_, fun _ _ => levels_congr⟩
  rw [eq_afterEdge_of_step hs, eq_afterEdge_of_step hs']
  exact ⟨congrArg decode (sel7_congr hp hq hr ht hc), afterEdge_motion_congr hp hq hr ht hc⟩

/-- Settles O8: a reset edge reads no other port, a first tick takes no entry, and a flagged edge reports no motion. -/
theorem simultaneousEvents : Obligations.SimultaneousEvents := by
  refine ⟨fun s e rest b p c hin he => ?_, fun s htick hp => ?_, fun s t _ hstep => ?_⟩
  · have hs : s = { s with inputs := e :: rest } := by rw [← hin]
    rw [hs]
    exact step_congr_of_reset s rest he rfl
  · refine ⟨s.afterEdge, step_eq s, ?_⟩
    rw [State.afterEdge_ambR, State.afterEdge_deltaR, if_pos htick, if_pos htick, State.tickResult_of_not_prevValid hp]
    exact ⟨rfl, rfl⟩
  · rw [eq_afterEdge_of_step hstep]
    exact afterEdge_deltaR_of_ambR

end Sys2Proof.Proofs.Invariants

/-!
PROOFS. The decoder and the encoder as inverses, the placed selector word, and how a step runs the selected step kind
(30_encoding.md R49, 42_tick_machine.md R92).
-/

namespace Sys2Proof

/-- No open bit of a step kind is lost in encoding. -/
theorem decode_encode (i : Instr) : decode (encode i) = i := by
  cases i with
  | reset x => revert x; decide
  | idle x => revert x; decide
  | prime x => revert x; decide
  | _ => rfl

/-- A word of seven bits fits a table word of seven bits or more. -/
theorem lt_two_pow_of_lt_128 {nbits w : Nat} (hbits : 7 ≤ nbits) (hw : w < 128) : w < 2 ^ nbits :=
  hw.trans_le (Nat.pow_le_pow_right two_pos hbits)

/-- A table word is read whole, and refused when it is wider than SEL7. -/
theorem decodeTableWord_of_lt {nbits w : Nat} (hw : w < 2 ^ nbits) :
    decodeTableWord nbits w = if w < 128 then some (decode (BitVec.ofNat 7 w)) else none := by
  rw [decodeTableWord, decodeNumber, Nat.mod_eq_of_lt hw]
  by_cases hwide : w < 128
  · rw [if_pos hwide, if_pos hwide]
  · rw [if_neg hwide, if_neg hwide]

/-- A table word that fits SEL7 decodes. -/
theorem decodeTableWord_of_lt_128 {nbits w : Nat} (hbits : 7 ≤ nbits) (hw : w < 128) :
    decodeTableWord nbits w = some (decode (BitVec.ofNat 7 w)) := by
  rw [decodeTableWord_of_lt (lt_two_pow_of_lt_128 hbits hw), if_pos hw]

/-- A selector word is its fields put together. -/
theorem sel7_of_fields (w : Sel7) :
    BitVec.ofBool (w.getLsbD 6) ++ BitVec.ofBool (w.getLsbD 5) ++ BitVec.ofBool (w.getLsbD 4) ++ w.extractLsb' 2 2 ++
      w.extractLsb' 0 2 = w := by
  revert w; decide

end Sys2Proof

namespace Sys2Proof.Machine

/-- The placed word's low bits are driven stable, so they are what the edge samples. -/
theorem curQ_samplePins_driveSelector (s : State) (w : Sel7) :
    curQ (samplePins (s.driveSelector w)) = w.extractLsb' 0 2 := by
  have hstable : ∀ c : BitVec 2, (c ++ 0b00#2).getLsbD 0 = false ∧ (c ++ 0b00#2).getLsbD 1 = false := by decide
  have hpins : ∀ a b : BitVec 2, curQ (a ++ b) = b := by decide
  obtain ⟨h0, h1⟩ := hstable ((s.inputs.headD ⟨false, false, 0b0000#4, 0b0000#4⟩).changing.extractLsb' 2 2)
  rw [samplePins, EdgeInput.curQ_sample h0 h1]
  exact hpins _ _

/-- The block forms the placed word. -/
theorem sel7_driveSelector (s : State) (w : Sel7) : sel7 (s.driveSelector w) = w := by
  rw [sel7, curQ_samplePins_driveSelector, State.driveSelector_input_rst, State.driveSelector_input_tick,
    State.driveSelector_prevValid, State.driveSelector_prevQ]
  exact sel7_of_fields w

/-- A table word that fits SEL7 is placed whole. -/
theorem State.withFetchWord_eq_driveSelector (s : State) {nbits w : Nat} (hbits : 7 ≤ nbits) (hw : w < 128) :
    s.withFetchWord nbits w = s.driveSelector (BitVec.ofNat 7 w) := by
  rw [withFetchWord, Nat.mod_eq_of_lt (lt_two_pow_of_lt_128 hbits hw)]

/-- A step is the selected step kind's meaning, and then the edge ends. -/
theorem step_of_exec {s t : State} {i : Instr} (hstep : decode (sel7 s) = i) (hexec : exec i s = .next t) :
    step s = .next t.endEdge := by
  rw [step, hstep, hexec]

/-- No step kind touches the two fields that are not state of the block. -/
theorem exec_keeps_host {i : Instr} {s t : State} (h : exec i s = .next t) :
    t.inputs = s.inputs ∧ t.edgeNo = s.edgeNo := by
  obtain ⟨_, _, h'⟩ | ⟨_, _, h'⟩ | ⟨_, _, h'⟩ | ⟨_, _, h'⟩ := exec_cases i s <;>
    · rw [← Host.Outcome.next.inj (h'.symm.trans h)]
      exact ⟨rfl, rfl⟩

end Sys2Proof.Machine

namespace Sys2Proof.Proofs.StepKinds

open Sys2Proof Sys2Proof.Machine

/-- Settles O3: the decoder inverts the encoder, and the table word is that selector word. -/
theorem decodeInvertsEncode : Obligations.DecodeInvertsEncode := fun i _ => by
  refine ⟨decode_encode i, ?_⟩
  rw [decodeTableWord_of_lt_128 (by decide) (encode i).isLt, BitVec.ofNat_toNat, BitVec.setWidth_eq, decode_encode]

/-- Settles O6: the placed word is formed, and the table word decodes to it. -/
theorem drivenSelectorWordIsFormed : Obligations.DrivenSelectorWordIsFormed := by
  intro s nbits w hbits hw t
  have hsel : sel7 t = BitVec.ofNat 7 w :=
    (congrArg sel7 (s.withFetchWord_eq_driveSelector hbits hw)).trans (sel7_driveSelector s _)
  exact ⟨hsel, by rw [hsel, decodeTableWord_of_lt_128 hbits hw], rfl, rfl, rfl, rfl, rfl, rfl, rfl⟩

/-- Settles O1: each word written out, by evaluation. -/
theorem decodeReadsWrittenWords : Obligations.DecodeReadsWrittenWords :=
  ⟨rfl, rfl, rfl, rfl, rfl, rfl, rfl, rfl⟩

/-- Settles O4: no bit is lost in decoding, and the table word is read whole. -/
theorem encodeInvertsDecode : Obligations.EncodeInvertsDecode :=
  ⟨encode_decode, fun _ _ => decodeTableWord_of_lt⟩

/-- Settles O5: every step kind answers a next state, and the edge ends with it. -/
theorem stepRunsTheSelectedStep : Obligations.StepRunsTheSelectedStep := fun s i _ hstep => by
  obtain ⟨t, hexec⟩ := exists_exec_eq_next i s
  rw [hexec, step_of_exec hstep hexec]
  rfl

/-- Settles O17: the host's two fields over the four kinds of row, and the idle writes. -/
theorem stepFrames : Obligations.StepFrames := by
  refine ⟨fun _ _ _ => exec_keeps_host, fun x s t h => ?_⟩
  rw [← Host.Outcome.next.inj ((exec_idle x s).symm.trans h)]
  exact ⟨rfl, rfl, rfl, rfl⟩

end Sys2Proof.Proofs.StepKinds

/-!
PROOFS. Runs that cannot be told apart (30_encoding.md R50, 20_memory.md R40, 40_sampler.md R60, 70_reset_and_hazards.md R112) and runs
over listed edges (R109, 30_encoding.md R53). A noninterference statement is a relation between states that every edge keeps and
under which every edge shows the same view (`outputsOf_map_eq`).
-/

namespace Sys2Proof.Machine

open Sys2Proof.Stated (TickEdge SameMotionInput SameLevelInput)

/-! Two runs side by side. -/

/-- States in a relation that every edge keeps show the same view of their outputs in every cycle, if each edge does. -/
theorem outputsOf_map_eq {α : Type} {R : State → State → Prop} {view : Outputs → α}
    (hkeep : ∀ s t, R s t → R s.afterEdge t.afterEdge)
    (hview : ∀ s t, R s t → view s.afterEdge.outputs = view t.afterEdge.outputs) (k : Nat) {s t : State} (h : R s t) :
    (outputsOf k s).map view = (outputsOf k t).map view := by
  induction k generalizing s t with
  | zero => rfl
  | succ k ih => rw [outputsOf_succ, outputsOf_succ, List.map_cons, List.map_cons, hview s t h, ih (hkeep s t h)]

theorem State.afterEdge_updR (s : State) : s.afterEdge.updR = (!s.input.rst && s.input.tick) := by
  rw [Bool.eq_iff_iff, afterEdge_updR_iff, TickEdge]
  simp

section RelatedInputs

variable {R : EdgeInput → EdgeInput → Prop} {s t : State}

/-- Pairwise related inputs give related ports at the coming edge; unlisted inputs are the same. -/
theorem State.input_of_forall₂ (hrefl : ∀ e, R e e) (hin : List.Forall₂ R s.inputs t.inputs)
    (hn : s.edgeNo = t.edgeNo) : R s.input t.input := by
  rw [State.input, State.input, hn]
  generalize s.inputs = es, t.inputs = fs at hin ⊢
  cases hin with
  | nil => exact hrefl _
  | cons he _ => exact he

/-- They stay so after the edge. -/
theorem State.afterEdge_inputs_forall₂ (hin : List.Forall₂ R s.inputs t.inputs) :
    List.Forall₂ R s.afterEdge.inputs t.afterEdge.inputs := by
  rw [afterEdge_inputs, afterEdge_inputs]
  generalize s.inputs = es, t.inputs = fs at hin ⊢
  cases hin with
  | nil => exact .nil
  | cons _ hes => exact hes

end RelatedInputs

/-- A line is sampled alike where two input words drive it alike and mark it alike. -/
theorem EdgeInput.line_congr {e f : EdgeInput} {i : Nat} (hp : e.pins.getLsbD i = f.pins.getLsbD i)
    (hc : e.changing.getLsbD i = f.changing.getLsbD i) (n : Nat) : e.line n i = f.line n i := by
  rw [line, line, hp, hc]

/-! The button and switch lines never reach the motion (R50, R82). -/

/-- Two states agree in all that decides motion. -/
structure SameMotion (s t : State) : Prop where
  prevQ : s.prevQ = t.prevQ
  prevValid : s.prevValid = t.prevValid
  edgeNo : s.edgeNo = t.edgeNo
  inputs : List.Forall₂ SameMotionInput s.inputs t.inputs

theorem EdgeInput.curQ_sample_congr {e f : EdgeInput} (h : SameMotionInput e f) (n : Nat) :
    curQ (e.sample n) = curQ (f.sample n) := by
  obtain ⟨-, -, hpins, hchanging⟩ := h
  have hline : ∀ i < 2, (e.sample n).getLsbD i = (f.sample n).getLsbD i := fun i hi => by
    have hp := getLsbD_congr_of_extractLsb'_eq hpins hi
    have hc := getLsbD_congr_of_extractLsb'_eq hchanging hi
    rw [Nat.zero_add] at hp hc
    rw [sample_getLsbD e n (by omega), sample_getLsbD f n (by omega), line_congr hp hc]
  exact curQ_congr (hline 0 (by decide)) (hline 1 (by decide))

namespace SameMotion

variable {s t : State}

theorem input (h : SameMotion s t) : SameMotionInput s.input t.input :=
  State.input_of_forall₂ (fun _ => ⟨rfl, rfl, rfl, rfl⟩) h.inputs h.edgeNo

theorem curQ_samplePins (h : SameMotion s t) : curQ (samplePins s) = curQ (samplePins t) := by
  rw [samplePins, samplePins, h.edgeNo, EdgeInput.curQ_sample_congr h.input]

theorem afterEdge (h : SameMotion s t) : SameMotion s.afterEdge t.afterEdge := by
  obtain ⟨hr, ht, -, -⟩ := h.input
  refine ⟨?_, ?_, ?_, State.afterEdge_inputs_forall₂ h.inputs⟩
  · rw [State.afterEdge_prevQ, State.afterEdge_prevQ, hr, ht, h.curQ_samplePins, h.prevQ]
  · rw [State.afterEdge_prevValid, State.afterEdge_prevValid, hr, ht, h.prevValid]
  · rw [State.afterEdge_edgeNo, State.afterEdge_edgeNo, h.edgeNo]

theorem afterEdge_pulses (h : SameMotion s t) :
    (s.afterEdge.deltaR, s.afterEdge.ambR, s.afterEdge.updR) =
      (t.afterEdge.deltaR, t.afterEdge.ambR, t.afterEdge.updR) := by
  obtain ⟨hr, ht, -, -⟩ := h.input
  obtain ⟨hdelta, hamb⟩ := afterEdge_motion_congr h.prevValid h.prevQ hr ht h.curQ_samplePins
  rw [hdelta, hamb, State.afterEdge_updR, State.afterEdge_updR, hr, ht]

end SameMotion

/-! The lines A and B and the previous state never reach the levels (R40). -/

/-- Two states agree in all that decides the levels. -/
structure SameLevels (s t : State) : Prop where
  btnR : s.btnR = t.btnR
  swtR : s.swtR = t.swtR
  edgeNo : s.edgeNo = t.edgeNo
  inputs : List.Forall₂ SameLevelInput s.inputs t.inputs

theorem EdgeInput.levels_sample_congr {e f : EdgeInput} (h : SameLevelInput e f) (n : Nat) :
    buttonPressed (e.sample n) = buttonPressed (f.sample n) ∧ switchOn (e.sample n) = switchOn (f.sample n) := by
  obtain ⟨-, -, hpins, hchanging⟩ := h
  have hline : ∀ i < 2, (e.sample n).getLsbD (2 + i) = (f.sample n).getLsbD (2 + i) := fun i hi => by
    have hp := getLsbD_congr_of_extractLsb'_eq hpins hi
    have hc := getLsbD_congr_of_extractLsb'_eq hchanging hi
    rw [sample_getLsbD e n (by omega), sample_getLsbD f n (by omega), line_congr hp hc]
  exact ⟨hline 0 (by decide), hline 1 (by decide)⟩

namespace SameLevels

variable {s t : State}

theorem input (h : SameLevels s t) : SameLevelInput s.input t.input :=
  State.input_of_forall₂ (fun _ => ⟨rfl, rfl, rfl, rfl⟩) h.inputs h.edgeNo

theorem levels_samplePins (h : SameLevels s t) :
    buttonPressed (samplePins s) = buttonPressed (samplePins t) ∧ switchOn (samplePins s) = switchOn (samplePins t) := by
  rw [samplePins, samplePins, h.edgeNo]
  exact EdgeInput.levels_sample_congr h.input _

theorem afterEdge (h : SameLevels s t) : SameLevels s.afterEdge t.afterEdge := by
  obtain ⟨hr, ht, -, -⟩ := h.input
  obtain ⟨hbtn, hswt⟩ := h.levels_samplePins
  refine ⟨?_, ?_, ?_, State.afterEdge_inputs_forall₂ h.inputs⟩
  · rw [State.afterEdge_btnR, State.afterEdge_btnR, hr, ht, hbtn, h.btnR]
  · rw [State.afterEdge_swtR, State.afterEdge_swtR, hr, ht, hswt, h.swtR]
  · rw [State.afterEdge_edgeNo, State.afterEdge_edgeNo, h.edgeNo]

theorem afterEdge_levels (h : SameLevels s t) :
    (s.afterEdge.btnR, s.afterEdge.swtR, s.afterEdge.updR) =
      (t.afterEdge.btnR, t.afterEdge.swtR, t.afterEdge.updR) := by
  obtain ⟨hr, ht, -, -⟩ := h.input
  rw [h.afterEdge.btnR, h.afterEdge.swtR, State.afterEdge_updR, State.afterEdge_updR, hr, ht]

end SameLevels

/-! A reset edge erases the past (R112). -/

/-- After a reset edge nothing but the host's inputs and the edge number is left of a state. -/
theorem afterEdge_congr_of_reset {s t : State} (hi : s.inputs = t.inputs) (hn : s.edgeNo = t.edgeNo)
    (hr : s.input.rst = true) : s.afterEdge = t.afterEdge := by
  have hr' : t.input.rst = true := by rw [← State.input_congr hi hn, hr]
  rw [State.afterEdge_reset hr, State.afterEdge_reset hr', State.endEdge, State.endEdge, State.resetRegisters,
    State.resetRegisters, hi, hn]

/-! Listed idle edges (R90, R109). -/

/-- The pulses are clear, and `n` edges of the host's are over, those of `rest` being due. -/
def State.idled (s : State) (n : Nat) (rest : List EdgeInput) : State :=
  { s.clearPulses with inputs := rest, edgeNo := s.edgeNo + n }

theorem afterEdge_of_listedIdle {s : State} {e : EdgeInput} {es : List EdgeInput} (he : e.rst = false ∧ e.tick = false)
    (hin : s.inputs = e :: es) : s.afterEdge = s.idled 1 es := by
  obtain ⟨hr, ht⟩ := he
  rw [State.afterEdge_idle (by rwa [State.input_cons hin]) (by rwa [State.input_cons hin]), State.idled, State.endEdge,
    State.clearPulses, hin]
  rfl

/-- Further idle edges change no register. -/
theorem State.idled_idled (s : State) (m n : Nat) (es rest : List EdgeInput) :
    (s.idled m es).idled n rest = s.idled (m + n) rest := by
  simp only [idled, clearPulses, Nat.add_assoc]

/-- One or more listed idle edges clear the pulses and keep every other register. -/
theorem runEdges_of_listedIdles {e : EdgeInput} {es rest : List EdgeInput}
    (hidle : ∀ i ∈ e :: es, i.rst = false ∧ i.tick = false) {s : State} (hin : s.inputs = e :: es ++ rest) :
    runEdges (es.length + 1) s = .next (s.idled (es.length + 1) rest) := by
  induction es generalizing e s with
  | nil =>
    obtain ⟨he, -⟩ := List.forall_mem_cons.mp hidle
    rw [runEdges_succ, afterEdge_of_listedIdle he hin]
    rfl
  | cons f fs ih =>
    obtain ⟨he, hes⟩ := List.forall_mem_cons.mp hidle
    rw [runEdges_succ, afterEdge_of_listedIdle he hin, List.length_cons, ih hes rfl, State.idled_idled,
      Nat.add_comm 1]

/-- Listed idle edges take IDLE steps. -/
theorem stepsOf_of_listedIdles {es rest : List EdgeInput} (hidle : ∀ i ∈ es, i.rst = false ∧ i.tick = false) {s : State}
    (hin : s.inputs = es ++ rest) : ∀ i ∈ stepsOf es.length s, ∃ x, i = .idle x := by
  induction es generalizing s with
  | nil => nofun
  | cons e es ih =>
    obtain ⟨⟨hr, ht⟩, hes⟩ := List.forall_mem_cons.mp hidle
    rw [List.length_cons, stepsOf_succ]
    refine List.forall_mem_cons.mpr ⟨?_, ih hes (by simp [hin])⟩
    exact exists_decode_sel7_eq_idle (by rwa [State.input_cons hin]) (by rwa [State.input_cons hin])

/-! A script is as many edges as its expanded statements (R53). -/

theorem length_scriptInputs (prog : List Statement) :
    (scriptInputs prog).length = (prog.map fun st => st.expand.length).sum := by
  rw [scriptInputs, List.length_map, List.length_flatMap]

end Sys2Proof.Machine

namespace Sys2Proof.Proofs.Runs

open Sys2Proof Sys2Proof.Machine Sys2Proof.Stated

/-- Settles O56: every edge keeps the agreement in what decides motion, and shows the same pulses. -/
theorem levelsNeverReachMotion : Obligations.LevelsNeverReachMotion := fun k _ _ hq hp hn hin =>
  outputsOf_map_eq (R := SameMotion) (fun _ _ => SameMotion.afterEdge) (fun _ _ => SameMotion.afterEdge_pulses) k
    ⟨hq, hp, hn, hin⟩

/-- Settles O57: every edge keeps the agreement in what decides the levels, and shows the same levels. -/
theorem motionNeverReachesLevels : Obligations.MotionNeverReachesLevels := fun k _ _ hbtn hswt hn hin =>
  outputsOf_map_eq (R := SameLevels) (fun _ _ => SameLevels.afterEdge) (fun _ _ => SameLevels.afterEdge_levels) k
    ⟨hbtn, hswt, hn, hin⟩

/-- Settles O54: the two states are the same after the reset edge. -/
theorem resetErasesThePast : Obligations.ResetErasesThePast := fun k s t hi hn hr => by
  rw [runEdges_succ, runEdges_succ, outputsOf_succ, outputsOf_succ, afterEdge_congr_of_reset hi hn hr]
  exact ⟨rfl, rfl⟩

/-- Settles O50: the steps are IDLE steps, and the state after them is the idled one. -/
theorem idleEdgesHold : Obligations.IdleEdgesHold := by
  intro s idles rest hne hidle hin
  refine ⟨stepsOf_of_listedIdles hidle hin, ?_⟩
  cases idles with
  | nil => exact absurd rfl hne
  | cons e es => exact runEdges_of_listedIdles hidle hin

/-- Settles O59: the expansions by definition, and a run uses up one listed input word an edge. -/
theorem scriptRunsStraightThrough : Obligations.ScriptRunsStraightThrough := by
  refine ⟨fun _ => rfl, fun _ _ => rfl, fun s prog => ?_⟩
  obtain ⟨t, hrun, hleft⟩ := runEdges_next (prog.map fun st => st.expand.length).sum (s.load prog)
  refine ⟨t, hrun, ?_⟩
  rw [hleft, State.load_inputs, ← length_scriptInputs, List.drop_length]

end Sys2Proof.Proofs.Runs
